-- ==== Sys2Proof/Word.lean ====
section
/-! DEFINITION. The words the block moves: bytes, 32-bit command words, 24-bit microsecond counts and 90-byte wire
images (spec/00_scope.md R6, R9, R11: every quantity is unsigned). -/

namespace Sys2Proof

/-- A byte, 8 bits (R9). -/
abbrev Byte := BitVec 8

/-- A command word, 32 bits (R100). -/
abbrev CmdWord := BitVec 32

/-- A count of microseconds, `WAIT_WIDTH` = 24 bits (R7, R45, R51). DESIGN CHOICE, unsafe for another width: log entry
7. -/
abbrev Micros := BitVec 24

/-- A 90-byte wire image or buffer, indexed by wire offset 0 to 89 (`PKT_LEN`, R6, R60). -/
abbrev Image := Vector Byte 90

/-- `zeros(90)` (R9). -/
def Image.zeros : Image := Vector.replicate 90 0

end Sys2Proof
end

