-- ==== Sys2Proof/Config.lean ====
section
/-! DEFINITION. What an implementation fixes: the open parameters of spec/00_scope.md R7, kept symbolic, and the
constant `TID_REQUEST` of R6. -/

namespace Sys2Proof

/-- The "request/request-type/value/index quadruple" of a control transfer (R99). Its four widths are the
spec's, taken there from general knowledge (93_implementation_defined.md G4). -/
structure Quadruple where
  request : Byte
  requestType : Byte
  value : BitVec 16
  index : BitVec 16
  deriving DecidableEq, Repr, Inhabited

/-- The parameters the spec leaves open (R7). The field defaults are R7's default column; the machine never
uses them (see `Config.params`), they serve the test vectors, which state what they depend on. -/
structure Params where
  /-- `STATUS_BUSY` (D3). -/
  statusBusy : Byte := 0x01
  /-- `STATUS_SUCCESS` (D3). -/
  statusSuccess : Byte := 0x02
  /-- `STATUS_FAILURE` (D3). -/
  statusFailure : Byte := 0x03
  /-- `STATUS_TIMEOUT` (D3). -/
  statusTimeout : Byte := 0x04
  /-- `STATUS_NOT_SUPPORTED` (D3). -/
  statusNotSupported : Byte := 0x05
  /-- `REM_BIG_ENDIAN` (D4). -/
  remBigEndian : Bool := true
  /-- `SUBFIELD_MSB_FIRST` (D5). -/
  subfieldMsbFirst : Bool := true
  /-- The outbound quadruple `OUT_REQUEST`, `OUT_REQUEST_TYPE`, `OUT_VALUE`, `OUT_INDEX` (D6). -/
  outQuad : Quadruple := ⟨0x09, 0x21, 0x0300, 0x0002⟩
  /-- The inbound quadruple `IN_REQUEST`, `IN_REQUEST_TYPE`, `IN_VALUE`, `IN_INDEX` (D6). -/
  inQuad : Quadruple := ⟨0x01, 0xA1, 0x0300, 0x0002⟩
  /-- `TERR_WIDTH`, the bits of a transport error code (D21). -/
  terrWidth : Nat := 16
  /-- R7: the five status codes "are pairwise distinct". -/
  statusDistinct :
    [statusBusy, statusSuccess, statusFailure, statusTimeout, statusNotSupported].Nodup := by decide
  /-- R7: "and none is zero". -/
  statusNonzero :
    0 ∉ [statusBusy, statusSuccess, statusFailure, statusTimeout, statusNotSupported] := by decide
  /-- 92_eei_decisions.md, "Parameters left open": an error code fits `XINFO`. -/
  terrWidthLe : terrWidth ≤ 16 := by decide
  deriving DecidableEq, Repr, Inhabited

/-- The parameters of this block: any legal choice of R7's open parameters. No body: no proof can see a value,
so whatever is proved holds for every choice (log entry 1). DESIGN CHOICE, safe. -/
opaque Config.params : Params

/-- A transport error code, any value of `TERR_WIDTH` bits (R7, R70, R73). -/
abbrev TErr := BitVec Config.params.terrWidth

/-- `TID_REQUEST` = `0x1F`, the whole `transaction_id` byte of every built request (R6, R170). -/
def Config.tidRequest : Byte := 0x1F

end Sys2Proof
end

