-- ==== Sys2Proof/Syntax.lean ====
section
/-! DEFINITION. The seventeen commands of spec/30_encoding.md R107, one constructor per row of opcode_table.json.
Operands are the raw bytes (or the 24-bit immediate) of the command word: a value outside a command's range is a
legal encoding that the command itself answers (R114 (3)). -/

namespace Sys2Proof

/-- One command of the block (R107). -/
inductive Instr where
  /-- `BUILD cls, id, size` (R171). -/
  | build (cls id size : Byte)
  /-- `WARG i, v` (R172). -/
  | warg (i v : Byte)
  /-- `SETDEV v` (R173). -/
  | setdev (v : Byte)
  /-- `SETTID v` (R174). -/
  | settid (v : Byte)
  /-- `SETDIR v` (R175). -/
  | setdir (v : Byte)
  /-- `SETCID v` (R176). -/
  | setcid (v : Byte)
  /-- `CKSUM s` (R163). -/
  | cksum (sel : Byte)
  /-- `SER` (R133). -/
  | ser
  /-- `WRX off, v` (R134). -/
  | wrx (off v : Byte)
  /-- `DES n` (R135). -/
  | des (n : Byte)
  /-- `SETMIN us` (R191). -/
  | setmin (us : Micros)
  /-- `SETMAX us` (R192). -/
  | setmax (us : Micros)
  /-- `XCHG` (R194). -/
  | xchg
  /-- `VALID` (R234). -/
  | valid
  /-- `RDPKT s, off` (R136). -/
  | rdpkt (sel off : Byte)
  /-- `RDSUB p, f` (R137). -/
  | rdsub (p f : Byte)
  /-- `RDCSR n` (R250). -/
  | rdcsr (n : Byte)
  deriving DecidableEq, Repr

end Sys2Proof
end

