-- ==== Sys2Proof/Machine/State.lean ====
section
/-! DEFINITION. The state of the block as plain data (spec/10_state.md), the reasons a step can stop, and reset. -/

namespace Sys2Proof.Machine

open Sys2Proof

/-- The packet record: ten fields in wire order (R21). -/
structure Packet where
  /-- Outcome code (R23). -/
  status : Byte
  /-- Device selector and transaction identifier, packed (R24). -/
  transactionId : Byte
  /-- Packet sequence counter (R25). -/
  remainingPackets : BitVec 16
  /-- Always zero in a request (R26). -/
  protocolType : Byte
  /-- Number of meaningful bytes in `args` (R27). -/
  dataSize : Byte
  /-- Command category (R28). -/
  commandClass : Byte
  /-- Direction flag and command identifier, packed (R29). -/
  commandId : Byte
  /-- Argument bytes 0 to 79 (R31). -/
  args : Vector Byte 80
  /-- Checksum byte (R32). -/
  crc : Byte
  /-- Always zero in a request (R33). -/
  reserved : Byte
  deriving DecidableEq, Repr

/-- `ZeroPacket`: every field zero (R22). -/
def Packet.zero : Packet where
  status := 0
  transactionId := 0
  remainingPackets := 0
  protocolType := 0
  dataSize := 0
  commandClass := 0
  commandId := 0
  args := Vector.replicate 80 0
  crc := 0
  reserved := 0

/-- The frame controller's sequencing state (R30). -/
inductive Phase where
  /-- No exchange in flight; commands are accepted. -/
  | idle
  /-- The outbound transfer is requested and not yet answered. -/
  | send
  /-- The settle wait is running. -/
  | wait
  /-- The inbound transfer is requested and not yet answered. -/
  | recv
  deriving DecidableEq, Repr

/-- The two bits of `phase` (R30). -/
def Phase.code : Phase → BitVec 2
  | .idle => 0
  | .send => 1
  | .wait => 2
  | .recv => 3

/-- How a command ended: the names of the 4-bit completion codes (R260). -/
inductive CompletionCode where
  | ok
  | badOp
  | badForm
  | badIndex
  | fieldWidth
  | malformedResponse
  | dataSizeOverflow
  | waitRange
  | xchgFailed
  deriving DecidableEq, Repr

/-- A control-transfer request the block makes of the transport (R70 to R72). -/
inductive TransferReq where
  /-- `out_req(q, data)` (R71). -/
  | outReq (q : Quadruple) (data : Image)
  /-- `in_req(q, want)` (R72). -/
  | inReq (q : Quadruple) (want : Nat)
  deriving DecidableEq, Repr

/-- The transport's answer to `out_req` (R70, R73). -/
inductive OutAnswer where
  /-- `Written(n)`, `n` any natural. -/
  | written (n : Nat)
  /-- `Err(e)`. -/
  | err (e : TErr)
  deriving DecidableEq, Repr

/-- The transport's answer to `in_req` (R70, R73). -/
inductive InAnswer where
  /-- `Data(b)`, a byte sequence of any length. -/
  | data (b : List Byte)
  /-- `Err(e)`. -/
  | err (e : TErr)
  deriving DecidableEq, Repr

/-- What can come to the block from outside (R8, R55, R268, R300). -/
inductive Event where
  /-- The host presents a command word (R80). -/
  | present (w : CmdWord)
  /-- The transport answers the outbound transfer. `pick` is the settle wait the transport or the timer would
  take; `drawWait` keeps it inside the programmed interval (R199, log entry 3). -/
  | outRsp (a : OutAnswer) (pick : Micros)
  /-- The transport answers the inbound transfer. -/
  | inRsp (a : InAnswer)
  /-- One microsecond of the timebase (R200). -/
  | tick
  /-- The reset input (R300). -/
  | reset
  deriving DecidableEq, Repr

/-- What the block emits (R9): transport requests, diagnostic records, completions. -/
inductive Output where
  /-- `emit out_req(...)` or `emit in_req(...)` (R70). -/
  | transfer (r : TransferReq)
  /-- `emit diag(code, bytes)` (R235). -/
  | diag (code : BitVec 3) (image : Image)
  /-- `complete(err, data)` (R9, R115). -/
  | complete (err : CompletionCode) (data : BitVec 32)
  deriving DecidableEq, Repr

/-- The state: every register, buffer and hidden counter of 10_state.md, then the three fields of the model's own
(`port`, `events`, `trace`). -/
structure State where
  /-- The request register (R20). -/
  req : Packet
  /-- The response register (R20). -/
  rsp : Packet
  /-- The frame controller's phase (R30). -/
  phase : Phase
  /-- Remaining microseconds of the settle wait (R51). -/
  waitCtr : Micros
  /-- CSR 0, the exchange result (R41). -/
  xres : BitVec 3
  /-- CSR 1, the qualifier of `XRES` (R42). -/
  xinfo : BitVec 16
  /-- CSR 2, the last classification (R43). -/
  cls : BitVec 3
  /-- CSR 3, the last checksum computed by `CKSUM` (R44). -/
  ckout : Byte
  /-- CSR 4 (R45). -/
  minWait : Micros
  /-- CSR 5 (R45). -/
  maxWait : Micros
  /-- CSR 6, the wait last drawn (R47). -/
  lastw : Micros
  /-- CSR 7, the number of diagnostic records (R48). -/
  diagcnt : BitVec 16
  /-- CSR 8, the code of the last diagnostic record (R49). -/
  diagcls : BitVec 3
  /-- The wire image last serialised (R50). -/
  txBuf : Image
  /-- The bytes last received or written by `WRX` (R50). -/
  rxBuf : Image
  /-- The image of the last diagnostic record (R50). -/
  diagBuf : Image
  /-- The command in progress (R54): between two steps it can only be the blocking `XCHG` (R193). -/
  inProgress : Option Instr
  /-- The transport request not yet answered (R53, R54). -/
  pending : Option TransferReq
  /-- MODEL'S OWN: the host's command words presented and not yet accepted, the one on the port first (R193). -/
  port : List CmdWord
  /-- MODEL'S OWN: the events still to come from outside, the next one first (R55, log entry 2). -/
  events : List Event
  /-- MODEL'S OWN: what the block has emitted, the oldest first (R9). -/
  trace : List Output
  deriving DecidableEq, Repr

/-- `busy = (phase ≠ IDLE)`, an output level and not a register (R52). -/
def State.busy (s : State) : Bool := s.phase != .idle

/-- The state after reset (R54, R300, R301): every register, buffer and counter zero, `phase` `IDLE`, no command in
progress, no transport request pending. The model's own three fields are empty (log entry 2). -/
def State.reset : State where
  req := Packet.zero
  rsp := Packet.zero
  phase := .idle
  waitCtr := 0
  xres := 0
  xinfo := 0
  cls := 0
  ckout := 0
  minWait := 0
  maxWait := 0
  lastw := 0
  diagcnt := 0
  diagcls := 0
  txBuf := Image.zeros
  rxBuf := Image.zeros
  diagBuf := Image.zeros
  inProgress := none
  pending := none
  port := []
  events := []
  trace := []

/-- Faults: none. The spec has no outcome that stops the block: every error is a completion code, an exchange
result or a classification (R260 to R262), and "no outcome is fatal" (R272). Nobody raises one. Safe. -/
inductive Fault where
  deriving DecidableEq, Repr

/-- Refusals. -/
inductive Refusal where
  /-- An instruction without a meaning. Raised by nobody: every command has its meaning. Safe. -/
  | notModelled (mnemonic : String)
  deriving DecidableEq, Repr

end Sys2Proof.Machine
end

