-- ==== Sys2Proof/Machine/Flags.lean ====
section
/-! DEFINITION. The outcome codes (spec/60_exceptions.md R260 to R262) and the saturating quantities of R11. The
block has no arithmetic flag: these codes are its only status values. -/

namespace Sys2Proof.Machine

open Sys2Proof

/-- The 4-bit number of a completion code (R260). -/
def CompletionCode.code : CompletionCode → BitVec 4
  | .ok => 0
  | .badOp => 1
  | .badForm => 2
  | .badIndex => 3
  | .fieldWidth => 4
  | .malformedResponse => 5
  | .dataSizeOverflow => 6
  | .waitRange => 7
  | .xchgFailed => 8

/-- `XRES` 0: no completed round trip is bound to the present `req` (R261). -/
def xresNone : BitVec 3 := 0

/-- `XRES` 1: 90 bytes went out and 90 came back (R261). -/
def xresOk : BitVec 3 := 1

/-- `XRES` 2: step 2 failed (R261). -/
def xresSendError : BitVec 3 := 2

/-- `XRES` 3: step 4 failed with a transport error (R261). -/
def xresRecvError : BitVec 3 := 3

/-- `XRES` 4: step 4 returned a number of bytes other than 90 (R261). -/
def xresIncompleteTransfer : BitVec 3 := 4

/-- The seven classifications the document declares (R230); `deviceBusy` is never produced (R233). -/
inductive Classification where
  | matched
  | fieldMismatch
  | deviceBusy
  | commandFailed
  | commandNotSupported
  | commandTimedOut
  | transferError
  deriving DecidableEq, Repr

/-- The 3-bit code of a classification (R262). -/
def Classification.code : Classification → BitVec 3
  | .matched => 1
  | .fieldMismatch => 2
  | .deviceBusy => 3
  | .commandFailed => 4
  | .commandNotSupported => 5
  | .commandTimedOut => 6
  | .transferError => 7

/-- `CLS` 0: no classification since reset or since the last `invalidate()` (R262). -/
def clsNone : BitVec 3 := 0

/-- A byte count in 16 bits, `min(n, 65535)` (R11, R198, R203). -/
def satCount (n : Nat) : BitVec 16 := BitVec.ofNat 16 (min n 65535)

/-- `zext_16(e)`: a transport error code in `XINFO` (R42, R198, R203). Nothing is cut off, since `TERR_WIDTH` is at
most 16. -/
def terrInfo (e : TErr) : BitVec 16 := e.setWidth 16

/-- `min(DIAGCNT + 1, 0xFFFF)`: saturates, never wraps (R11, R235). -/
def satIncr (n : BitVec 16) : BitVec 16 := satCount (n.toNat + 1)

end Sys2Proof.Machine
end

