-- ==== Sys2Proof/Machine/Operands.lean ====
section
/-! DEFINITION. Operand forms: the sub-field pack and unpack functions (spec/30_encoding.md R95 to R98), the byte
spaces, the image selectors and the sub-field selectors. -/

namespace Sys2Proof.Machine

open Sys2Proof

/-- `UnpackTid(t) -> (device, id)` (R92, R95). -/
def unpackTid (P : Params) (t : Byte) : BitVec 3 × BitVec 5 :=
  if P.subfieldMsbFirst then (t.extractLsb' 5 3, t.extractLsb' 0 5)
  else (t.extractLsb' 0 3, t.extractLsb' 3 5)

/-- `PackTid(device, id)` (R96). -/
def packTid (P : Params) (device : BitVec 3) (id : BitVec 5) : Byte :=
  if P.subfieldMsbFirst then device ++ id else id ++ device

/-- `UnpackCid(c) -> (direction, id)` (R93, R97). -/
def unpackCid (P : Params) (c : Byte) : BitVec 1 × BitVec 7 :=
  if P.subfieldMsbFirst then (c.extractLsb' 7 1, c.extractLsb' 0 7)
  else (c.extractLsb' 0 1, c.extractLsb' 1 7)

/-- `PackCid(direction, id)` (R98). -/
def packCid (P : Params) (direction : BitVec 1) (id : BitVec 7) : Byte :=
  if P.subfieldMsbFirst then direction ++ id else id ++ direction

/-- The five byte spaces (R60). -/
inductive Space where
  | req
  | rsp
  | tx
  | rx
  | diag
  deriving DecidableEq, Repr

/-- The space a `RDPKT` selector names; none above 4 (R60, R136). -/
def spaceOfSel (sel : Byte) : Option Space :=
  match sel.toNat with
  | 0 => some .req
  | 1 => some .rsp
  | 2 => some .tx
  | 3 => some .rx
  | 4 => some .diag
  | _ => none

/-- The image a `CKSUM` selector names; none above 3 (R163). -/
def imageOfSel (sel : Byte) : Option Space :=
  match sel.toNat with
  | 0 => some .req
  | 1 => some .rsp
  | 2 => some .tx
  | 3 => some .rx
  | _ => none

/-- The packet a `RDSUB` selector names; none above 1 (R137). -/
def packetOfSel (p : Byte) (s : State) : Option Packet :=
  match p.toNat with
  | 0 => some s.req
  | 1 => some s.rsp
  | _ => none

/-- The sub-field a `RDSUB` selector names, zero-extended: 0 `DEV`, 1 `TID`, 2 `DIR`, 3 `CID`; none above 3
(R137). -/
def subfieldOfSel (P : Params) (f : Byte) (p : Packet) : Option (BitVec 32) :=
  match f.toNat with
  | 0 => some ((unpackTid P p.transactionId).1.setWidth 32)
  | 1 => some ((unpackTid P p.transactionId).2.setWidth 32)
  | 2 => some ((unpackCid P p.commandId).1.setWidth 32)
  | 3 => some ((unpackCid P p.commandId).2.setWidth 32)
  | _ => none

/-- The CSR of a number, zero-extended to 32 bits; none above 8 (R40, R250). -/
def csrOfNum (n : Byte) (s : State) : Option (BitVec 32) :=
  match n.toNat with
  | 0 => some (s.xres.setWidth 32)
  | 1 => some (s.xinfo.setWidth 32)
  | 2 => some (s.cls.setWidth 32)
  | 3 => some (s.ckout.setWidth 32)
  | 4 => some (s.minWait.setWidth 32)
  | 5 => some (s.maxWait.setWidth 32)
  | 6 => some (s.lastw.setWidth 32)
  | 7 => some (s.diagcnt.setWidth 32)
  | 8 => some (s.diagcls.setWidth 32)
  | _ => none

end Sys2Proof.Machine
end

