-- ==== Sys2Proof/Machine/Ops.lean ====
section
/-! DEFINITION. The operations every command is written over: the codec and checksum functions, reads and writes of
the byte spaces, completing a command, raising an error, `invalidate()`. -/

namespace Sys2Proof.Machine

open Sys2Proof

/-! ### The function layer -/

/-- The byte at wire offset 2 (R63). -/
def remFirst (P : Params) (r : BitVec 16) : Byte :=
  if P.remBigEndian then r.extractLsb' 8 8 else r.extractLsb' 0 8

/-- The byte at wire offset 3 (R63). -/
def remSecond (P : Params) (r : BitVec 16) : Byte :=
  if P.remBigEndian then r.extractLsb' 0 8 else r.extractLsb' 8 8

/-- `remaining_packets` from wire bytes 2 and 3 (R94). -/
def remAssemble (P : Params) (w2 w3 : Byte) : BitVec 16 :=
  if P.remBigEndian then w2 ++ w3 else w3 ++ w2

/-- `Ser(p)` (R61, R130): the 90-byte wire image; `crc` is copied as it stands and nothing is masked (R138). -/
def ser (P : Params) (p : Packet) : Image :=
  (#v[p.status, p.transactionId, remFirst P p.remainingPackets, remSecond P p.remainingPackets,
      p.protocolType, p.dataSize, p.commandClass, p.commandId] : Vector Byte 8)
    ++ p.args ++ (#v[p.crc, p.reserved] : Vector Byte 2)

/-- `Des(b)` of a sequence of exactly 90 bytes (R131). -/
def desImage (P : Params) (b : Image) : Packet where
  status := b[0]
  transactionId := b[1]
  remainingPackets := remAssemble P b[2] b[3]
  protocolType := b[4]
  dataSize := b[5]
  commandClass := b[6]
  commandId := b[7]
  args := Vector.ofFn fun i => b[8 + i.val]
  crc := b[88]
  reserved := b[89]

/-- A byte sequence of exactly 90 bytes as an image; none for any other length (R65). -/
def imageOfBytes (b : List Byte) : Option Image :=
  if h : b.length = 90 then some ⟨b.toArray, by simpa using h⟩ else none

/-- `Des(b)` (R131): `none` is `MalformedResponse`, the answer to every length other than 90. -/
def des (P : Params) (b : List Byte) : Option Packet := (imageOfBytes b).map (desImage P)

/-- `Cksum(w)`: the XOR of wire bytes 2 to 87 (R68, R160). -/
def cksum (w : Image) : Byte := ((w.toList.drop 2).take 86).foldl (· ^^^ ·) 0

/-- `Build(class, id, size)` (R170): every field written, `args` zero-filled (R179), the size unchecked (R178). -/
def buildPacket (cls id size : Byte) : Packet where
  status := 0
  transactionId := Config.tidRequest
  remainingPackets := 0
  protocolType := 0
  dataSize := size
  commandClass := cls
  commandId := id
  args := Vector.replicate 80 0
  crc := 0
  reserved := 0

/-- `Classify(x, q, r)`, first match wins (R230 to R233); `x` is the value of `XRES` (R231). -/
def classify (P : Params) (x : BitVec 3) (q r : Packet) : Classification :=
  if x ≠ xresOk then .transferError
  else if r.remainingPackets ≠ q.remainingPackets ∨ r.commandClass ≠ q.commandClass ∨
      r.commandId ≠ q.commandId then .fieldMismatch
  else if r.status = P.statusFailure then .commandFailed
  else if r.status = P.statusNotSupported then .commandNotSupported
  else if r.status = P.statusTimeout then .commandTimedOut
  else .matched

/-- The stamp: `crc <- Cksum(Ser(p))`, no other field (R196). -/
def stamp (P : Params) (p : Packet) : Packet := { p with crc := cksum (ser P p) }

/-! ### Completions and outputs -/

/-- `emit`: record one output event (R9). -/
def emit (o : Output) (s : State) : State := { s with trace := s.trace ++ [o] }

/-- `complete(err, data)` (R9, R115). -/
def complete (err : CompletionCode) (data : BitVec 32) (s : State) : State := emit (.complete err data) s

/-- `raise E(info)`: the block's counterpart of taking an exception. It saves no return address, switches no mode
and changes nothing else: the command completes with the error code and `info` (R9, R269, R271). There is nothing to
return from (R270). -/
def raise (err : CompletionCode) (info : BitVec 32) (s : State) : State := complete err info s

/-- `invalidate()`: `XRES`, `XINFO` and `CLS` become zero (R46). -/
def invalidate (s : State) : State := { s with xres := xresNone, xinfo := 0, cls := clsNone }

/-! ### The byte spaces -/

/-- The 90 bytes of a space: `REQ` and `RSP` are live views, the others storage (R60). -/
def spaceImage (P : Params) (sp : Space) (s : State) : Image :=
  match sp with
  | .req => ser P s.req
  | .rsp => ser P s.rsp
  | .tx => s.txBuf
  | .rx => s.rxBuf
  | .diag => s.diagBuf

/-- `MemRead(S, off, 1)`; none at an offset of 90 or more, which does not exist (R9, R60). -/
def memRead (sp : Space) (off : Nat) (s : State) : Option Byte := (spaceImage Config.params sp s)[off]?

/-- `MemWrite(RX, off, 1, v)` at an offset below 90; `RX` is the only space a command writes by offset (R60, R134). -/
def writeRx (off : Nat) (v : Byte) (s : State) : State := { s with rxBuf := s.rxBuf.setIfInBounds off v }

/-- A write of the request register, which always invalidates (R46). -/
def writeReq (p : Packet) (s : State) : State := invalidate { s with req := p }

/-- A write of the response register by `DES`, which invalidates (R46, R135). -/
def writeRsp (p : Packet) (s : State) : State := invalidate { s with rsp := p }

end Sys2Proof.Machine
end

