-- ==== Sys2Proof/Machine/Builder.lean ====
section
/-! DEFINITION. The Transaction Builder (spec/42_builder.md): `BUILD`, `WARG`, `SETDEV`, `SETTID`, `SETDIR`,
`SETCID`. -/

namespace Sys2Proof.Machine

open Sys2Proof

/-- `BUILD cls, id, size` (R171). -/
def execBuild (cls id size : Byte) (s : State) : Host.Outcome State Fault Refusal :=
  .next (complete .ok 0 (writeReq (buildPacket cls id size) s))

/-- `WARG i, v` (R172); the index is not compared with `data_size`. -/
def execWarg (i v : Byte) (s : State) : Host.Outcome State Fault Refusal :=
  if i.toNat ≥ 80 then .next (raise .badIndex 0 s)
  else .next (complete .ok 0 (writeReq { s.req with args := s.req.args.setIfInBounds i.toNat v } s))

/-- `SETDEV v` (R173). -/
def execSetdev (v : Byte) (s : State) : Host.Outcome State Fault Refusal :=
  if v.toNat > 7 then .next (raise .fieldWidth 0 s)
  else
    let old := unpackTid Config.params s.req.transactionId
    .next (complete .ok 0
      (writeReq { s.req with transactionId := packTid Config.params (v.setWidth 3) old.2 } s))

/-- `SETTID v` (R174). -/
def execSettid (v : Byte) (s : State) : Host.Outcome State Fault Refusal :=
  if v.toNat > 31 then .next (raise .fieldWidth 0 s)
  else
    let old := unpackTid Config.params s.req.transactionId
    .next (complete .ok 0
      (writeReq { s.req with transactionId := packTid Config.params old.1 (v.setWidth 5) } s))

/-- `SETDIR v` (R175). -/
def execSetdir (v : Byte) (s : State) : Host.Outcome State Fault Refusal :=
  if v.toNat > 1 then .next (raise .fieldWidth 0 s)
  else
    let old := unpackCid Config.params s.req.commandId
    .next (complete .ok 0
      (writeReq { s.req with commandId := packCid Config.params (v.setWidth 1) old.2 } s))

/-- `SETCID v` (R176). -/
def execSetcid (v : Byte) (s : State) : Host.Outcome State Fault Refusal :=
  if v.toNat > 127 then .next (raise .fieldWidth 0 s)
  else
    let old := unpackCid Config.params s.req.commandId
    .next (complete .ok 0
      (writeReq { s.req with commandId := packCid Config.params old.1 (v.setWidth 7) } s))

end Sys2Proof.Machine
end

