-- ==== Sys2Proof/Machine/Checksum.lean ====
section
/-! DEFINITION. The Checksum Unit's command (spec/41_checksum.md): `CKSUM`. -/

namespace Sys2Proof.Machine

open Sys2Proof

/-- `CKSUM s` (R163): writes `CKOUT` and no packet field. -/
def execCksum (sel : Byte) (s : State) : Host.Outcome State Fault Refusal :=
  match imageOfSel sel with
  | none => .next (raise .badIndex 0 s)
  | some sp =>
    let k := cksum (spaceImage Config.params sp s)
    .next (complete .ok (k.setWidth 32) { s with ckout := k })

end Sys2Proof.Machine
end

