-- ==== Sys2Proof/Machine/Codec.lean ====
section
/-! DEFINITION. The Packet Codec's commands (spec/40_codec.md): `SER`, `WRX`, `DES`, `RDPKT`, `RDSUB`. -/

namespace Sys2Proof.Machine

open Sys2Proof

/-- `SER` (R133): `crc` is not stamped and nothing is invalidated. -/
def execSer (s : State) : Host.Outcome State Fault Refusal :=
  .next (complete .ok 0 { s with txBuf := ser Config.params s.req })

/-- `WRX off, v` (R134). -/
def execWrx (off v : Byte) (s : State) : Host.Outcome State Fault Refusal :=
  if off.toNat ≥ 90 then .next (raise .badIndex 0 s)
  else .next (complete .ok 0 (writeRx off.toNat v s))

/-- `DES n` (R135): the declared length is the only thing checked. -/
def execDes (n : Byte) (s : State) : Host.Outcome State Fault Refusal :=
  if n.toNat ≠ 90 then .next (raise .malformedResponse (n.setWidth 32) s)
  else .next (complete .ok 0 (writeRsp (desImage Config.params s.rxBuf) s))

/-- `RDPKT s, off` (R136): no state changes. -/
def execRdpkt (sel off : Byte) (s : State) : Host.Outcome State Fault Refusal :=
  match (spaceOfSel sel).bind fun sp => memRead sp off.toNat s with
  | none => .next (raise .badIndex 0 s)
  | some v => .next (complete .ok (v.setWidth 32) s)

/-- `RDSUB p, f` (R137): no state changes. -/
def execRdsub (p f : Byte) (s : State) : Host.Outcome State Fault Refusal :=
  match (packetOfSel p s).bind (subfieldOfSel Config.params f) with
  | none => .next (raise .badIndex 0 s)
  | some v => .next (complete .ok v s)

end Sys2Proof.Machine
end

