-- ==== Sys2Proof/Machine/Csr.lean ====
section
/-! DEFINITION. Reading results (spec/45_csr_access.md): `RDCSR`. -/

namespace Sys2Proof.Machine

open Sys2Proof

/-- `RDCSR n` (R250): no state changes. -/
def execRdcsr (n : Byte) (s : State) : Host.Outcome State Fault Refusal :=
  match csrOfNum n s with
  | none => .next (raise .badIndex 0 s)
  | some v => .next (complete .ok v s)

end Sys2Proof.Machine
end

