-- ==== Sys2Proof/Machine/Exchange.lean ====
section
/-! DEFINITION. The Transport Round-Trip (spec/43_exchange.md): `SETMIN`, `SETMAX`, `XCHG`, and the steps of the
frame controller (R197 to R205). -/

namespace Sys2Proof.Machine

open Sys2Proof

/-- `SETMIN us` (R191). -/
def execSetmin (us : Micros) (s : State) : Host.Outcome State Fault Refusal :=
  .next (complete .ok 0 { s with minWait := us })

/-- `SETMAX us` (R192). -/
def execSetmax (us : Micros) (s : State) : Host.Outcome State Fault Refusal :=
  .next (complete .ok 0 { s with maxWait := us })

/-- A transport request is emitted and stays pending until it is answered (R53, R70). -/
def request (r : TransferReq) (s : State) : State := emit (.transfer r) { s with pending := some r }

/-- The outbound request of R71. -/
def outRequest (data : Image) : TransferReq := .outReq Config.params.outQuad data

/-- The inbound request of R72 and R201: exactly 90 bytes are wanted. -/
def inRequest : TransferReq := .inReq Config.params.inQuad 90

/-- The start of an exchange (R195, R196): invalidate, clear, stamp, serialise, send. -/
def startExchange (s : State) : State :=
  let q := stamp Config.params s.req
  let w := ser Config.params q
  request (outRequest w)
    { invalidate s with
      lastw := 0
      rsp := Packet.zero
      rxBuf := Image.zeros
      req := q
      txBuf := w
      phase := .send
      inProgress := some .xchg }

/-- `XCHG` (R194): the two checks in their order, then the exchange starts; its completion comes from the
controller step that ends it (R204). -/
def execXchg (s : State) : Host.Outcome State Fault Refusal :=
  if s.req.dataSize.toNat > 80 then .next (raise .dataSizeOverflow (s.req.dataSize.setWidth 32) s)
  else if s.minWait > s.maxWait then .next (raise .waitRange 0 s)
  else .next (startExchange s)

/-! ### The frame controller -/

/-- `draw w in [lo, hi]` (R9, R199): the value brought from outside, kept inside the interval. Every value of the
interval is drawn by some `pick`, itself among them. -/
def drawWait (lo hi pick : Micros) : Micros :=
  if pick < lo then lo else if hi < pick then hi else pick

/-- The inbound transfer is requested (R197, R200, R201). -/
def enterRecv (s : State) : State := request inRequest { s with phase := .recv }

/-- The end of an exchange (R198, R202, R203, R204): the result is recorded, the block is `IDLE` again and the
`XCHG` completes with `XRES` as its data, `OK` exactly when `XRES` is `OK`. -/
def endExchange (result : BitVec 3) (info : BitVec 16) (s : State) : State :=
  complete (if result = xresOk then .ok else .xchgFailed) (result.setWidth 32)
    { s with xres := result, xinfo := info, phase := .idle, pending := none, inProgress := none }

/-- The outbound transfer took 90 bytes (R197). -/
def sendSucceeded (pick : Micros) (s : State) : State :=
  let w := drawWait s.minWait s.maxWait pick
  let t := { s with lastw := w, waitCtr := w, pending := none }
  if w = 0 then enterRecv t else { t with phase := .wait }

/-- `on out_rsp(a)` (R197, R198); ignored in every phase but `SEND` (R205). -/
def onOutRsp (a : OutAnswer) (pick : Micros) (s : State) : State :=
  if s.phase = .send then
    match a with
    | .written n => if n = 90 then sendSucceeded pick s else endExchange xresSendError (satCount n) s
    | .err e => endExchange xresSendError (terrInfo e) s
  else s

/-- `on tick` (R200); ignored in every phase but `WAIT` (R205). R200 is enabled with `wait_ctr ≥ 1`; the count is
never taken below zero (R11). -/
def onTick (s : State) : State :=
  if s.phase = .wait ∧ s.waitCtr ≠ 0 then
    let t := { s with waitCtr := s.waitCtr - 1 }
    if t.waitCtr = 0 then enterRecv t else t
  else s

/-- `on in_rsp(a)` (R202, R203); ignored in every phase but `RECV` (R205). -/
def onInRsp (a : InAnswer) (s : State) : State :=
  if s.phase = .recv then
    match a with
    | .data b =>
      match imageOfBytes b with
      | some w => endExchange xresOk 0 { s with rxBuf := w, rsp := desImage Config.params w }
      | none => endExchange xresIncompleteTransfer (satCount b.length) s
    | .err e => endExchange xresRecvError (terrInfo e) s
  else s

/-- Reset (R300, R302): every piece of the block's state takes its reset value and an exchange in flight never
completes. The words waiting on the port go with it; the events still to come and the record of what was emitted are
not the block's (log entry 4). -/
def onReset (s : State) : State := { State.reset with events := s.events, trace := s.trace }

/-- One event arrives (R8, R210). A presented word waits on the port until it is accepted (R193). -/
def onEvent (e : Event) (s : State) : State :=
  match e with
  | .present w => { s with port := s.port ++ [w] }
  | .outRsp a pick => onOutRsp a pick s
  | .inRsp a => onInRsp a s
  | .tick => onTick s
  | .reset => onReset s

/-- The next event is consumed; while none arrives nothing changes (R208, R300). -/
def nextEvent (s : State) : State :=
  match s.events with
  | [] => s
  | e :: rest => onEvent e { s with events := rest }

end Sys2Proof.Machine
end

