-- ==== Sys2Proof/Machine/Validator.lean ====
section
/-! DEFINITION. The Response Validator (spec/44_validator.md): `VALID` and the diagnostic record. -/

namespace Sys2Proof.Machine

open Sys2Proof

/-- The diagnostic record `(code, Ser(rsp))` (R235). -/
def recordDiag (code : BitVec 3) (s : State) : State :=
  let w := ser Config.params s.rsp
  emit (.diag code w) { s with diagBuf := w, diagcls := code, diagcnt := satIncr s.diagcnt }

/-- `VALID` (R234): a verdict other than `Matched` is recorded, and is a result, not a command error. -/
def execValid (s : State) : Host.Outcome State Fault Refusal :=
  let k := classify Config.params s.xres s.req s.rsp
  let t := { s with cls := k.code }
  .next (complete .ok (k.code.setWidth 32) (if k = .matched then t else recordDiag k.code t))

end Sys2Proof.Machine
end

