-- ==== Sys2Proof/Machine/Dispatch.lean ====
section
/-! DEFINITION. One arm per command, each one direct call of its meaning. -/

namespace Sys2Proof.Machine

open Sys2Proof

/-- The meaning of an accepted command (spec/30_encoding.md R107). -/
def exec (i : Instr) (s : State) : Host.Outcome State Fault Refusal :=
  match i with
  | .build cls id size => Sys2Proof.Machine.execBuild cls id size s
  | .warg idx v => Sys2Proof.Machine.execWarg idx v s
  | .setdev v => Sys2Proof.Machine.execSetdev v s
  | .settid v => Sys2Proof.Machine.execSettid v s
  | .setdir v => Sys2Proof.Machine.execSetdir v s
  | .setcid v => Sys2Proof.Machine.execSetcid v s
  | .cksum sel => Sys2Proof.Machine.execCksum sel s
  | .ser => Sys2Proof.Machine.execSer s
  | .wrx off v => Sys2Proof.Machine.execWrx off v s
  | .des n => Sys2Proof.Machine.execDes n s
  | .setmin us => Sys2Proof.Machine.execSetmin us s
  | .setmax us => Sys2Proof.Machine.execSetmax us s
  | .xchg => Sys2Proof.Machine.execXchg s
  | .valid => Sys2Proof.Machine.execValid s
  | .rdpkt sel off => Sys2Proof.Machine.execRdpkt sel off s
  | .rdsub p f => Sys2Proof.Machine.execRdsub p f s
  | .rdcsr n => Sys2Proof.Machine.execRdcsr n s

end Sys2Proof.Machine
end

