-- ==== Sys2Proof/Decode.lean ====
section
/-! DEFINITION. Decoding and encoding of command words (spec/30_encoding.md R100 to R109, R114). -/

namespace Sys2Proof

/-- Why a word is no command (R114). -/
inductive DecodeError where
  /-- `op` is `0x00` or `0x12` to `0xFF` (R108). -/
  | badOp
  /-- A must-be-zero operand byte is not zero (R109). -/
  | badForm
  deriving DecidableEq, Repr

/-- The five formats (R101 to R105). -/
inductive Format where
  | z
  | b1
  | b2
  | b3
  | i24
  deriving DecidableEq, Repr

/-- Bits 31:24, the opcode (R100). -/
def opOf (w : CmdWord) : Byte := w.extractLsb' 24 8

/-- Bits 23:16, operand byte `a` (R100). -/
def aOf (w : CmdWord) : Byte := w.extractLsb' 16 8

/-- Bits 15:8, operand byte `b` (R100). -/
def bOf (w : CmdWord) : Byte := w.extractLsb' 8 8

/-- Bits 7:0, operand byte `c` (R100). -/
def cOf (w : CmdWord) : Byte := w.extractLsb' 0 8

/-- `imm24 = {a, b, c}`, `a` most significant (R106). -/
def imm24 (a b c : Byte) : Micros := a ++ b ++ c

/-- The must-be-zero operand bytes of a format are zero (R101 to R105, R109). -/
def Format.unusedZero : Format → (a b c : Byte) → Bool
  | .z, a, b, c => a == 0 && b == 0 && c == 0
  | .b1, _, b, c => b == 0 && c == 0
  | .b2, _, _, c => c == 0
  | .b3, _, _, _ => true
  | .i24, _, _, _ => true

/-- The opcode map of R107: a legal opcode's format, and its command as a function of the operand bytes. -/
def opRow (op : Byte) : Option (Format × (Byte → Byte → Byte → Instr)) :=
  match op.toNat with
  | 0x01 => some (.b3, fun a b c => .build a b c)
  | 0x02 => some (.b2, fun a b _ => .warg a b)
  | 0x03 => some (.b1, fun a _ _ => .setdev a)
  | 0x04 => some (.b1, fun a _ _ => .settid a)
  | 0x05 => some (.b1, fun a _ _ => .setdir a)
  | 0x06 => some (.b1, fun a _ _ => .setcid a)
  | 0x07 => some (.b1, fun a _ _ => .cksum a)
  | 0x08 => some (.z, fun _ _ _ => .ser)
  | 0x09 => some (.b2, fun a b _ => .wrx a b)
  | 0x0A => some (.b1, fun a _ _ => .des a)
  | 0x0B => some (.i24, fun a b c => .setmin (imm24 a b c))
  | 0x0C => some (.i24, fun a b c => .setmax (imm24 a b c))
  | 0x0D => some (.z, fun _ _ _ => .xchg)
  | 0x0E => some (.z, fun _ _ _ => .valid)
  | 0x0F => some (.b2, fun a b _ => .rdpkt a b)
  | 0x10 => some (.b2, fun a b _ => .rdsub a b)
  | 0x11 => some (.b1, fun a _ _ => .rdcsr a)
  | _ => none

/-- Decoding of the four fields, in the order of R114: illegal opcode first, then must-be-zero bytes. -/
def decodeFields (op a b c : Byte) : Except DecodeError Instr :=
  match opRow op with
  | none => .error .badOp
  | some (fmt, mk) => if fmt.unusedZero a b c then .ok (mk a b c) else .error .badForm

/-- Decoding of a command word (R114). Total: every word is a command, `badOp` or `badForm`. -/
def decodeWord (w : CmdWord) : Except DecodeError Instr :=
  decodeFields (opOf w) (aOf w) (bOf w) (cOf w)

/-- The 32-bit word whose bits are `w`, where the table gives the row `nbits` bits; every bit above is zero. A
command is one word (R100), so nothing lies beyond it. -/
def tableWord (nbits w : Nat) : CmdWord := BitVec.ofNat 32 (w % 2 ^ nbits)

/-- What the decoder reads from an instruction whose bits are `w`. -/
def decodeTableWord (nbits w : Nat) : Option Instr := (decodeWord (tableWord nbits w)).toOption

/-! ### The encoder -/

/-- A command word from its four byte fields (R100). -/
def cmdWord (op a b c : Byte) : CmdWord := op ++ a ++ b ++ c

/-- The word of a command (R101 to R107): unused operand bytes are zero. -/
def encode : Instr → CmdWord
  | .build cls id size => cmdWord 0x01 cls id size
  | .warg i v => cmdWord 0x02 i v 0
  | .setdev v => cmdWord 0x03 v 0 0
  | .settid v => cmdWord 0x04 v 0 0
  | .setdir v => cmdWord 0x05 v 0 0
  | .setcid v => cmdWord 0x06 v 0 0
  | .cksum sel => cmdWord 0x07 sel 0 0
  | .ser => cmdWord 0x08 0 0 0
  | .wrx off v => cmdWord 0x09 off v 0
  | .des n => cmdWord 0x0A n 0 0
  | .setmin us => (0x0B : Byte) ++ us
  | .setmax us => (0x0C : Byte) ++ us
  | .xchg => cmdWord 0x0D 0 0 0
  | .valid => cmdWord 0x0E 0 0 0
  | .rdpkt sel off => cmdWord 0x0F sel off 0
  | .rdsub p f => cmdWord 0x10 p f 0
  | .rdcsr n => cmdWord 0x11 n 0 0

/-! ### The match and mask table -/

/-- A command's mnemonic in opcode_table.json. -/
def Instr.mnemonic : Instr → String
  | .build _ _ _ => "BUILD"
  | .warg _ _ => "WARG"
  | .setdev _ => "SETDEV"
  | .settid _ => "SETTID"
  | .setdir _ => "SETDIR"
  | .setcid _ => "SETCID"
  | .cksum _ => "CKSUM"
  | .ser => "SER"
  | .wrx _ _ => "WRX"
  | .des _ => "DES"
  | .setmin _ => "SETMIN"
  | .setmax _ => "SETMAX"
  | .xchg => "XCHG"
  | .valid => "VALID"
  | .rdpkt _ _ => "RDPKT"
  | .rdsub _ _ => "RDSUB"
  | .rdcsr _ => "RDCSR"

/-- One row of R107's table: the word `w` is the row's command exactly when `(w & mask) = match`. -/
structure OpcodeRow where
  mnemonic : String
  op : Byte
  matchWord : CmdWord
  mask : CmdWord
  deriving DecidableEq, Repr

/-- R107's test of a word against a row. -/
def OpcodeRow.accepts (r : OpcodeRow) (w : CmdWord) : Bool := w &&& r.mask == r.matchWord

/-- The `match` and `mask` columns of R107, row by row. `decodeWord` does not use it: R114 says the two readings
are equivalent, and a statement says that they are. -/
def opcodeTable : List OpcodeRow :=
  [ ⟨"BUILD", 0x01, 0x01000000, 0xFF000000⟩,
    ⟨"WARG", 0x02, 0x02000000, 0xFF0000FF⟩,
    ⟨"SETDEV", 0x03, 0x03000000, 0xFF00FFFF⟩,
    ⟨"SETTID", 0x04, 0x04000000, 0xFF00FFFF⟩,
    ⟨"SETDIR", 0x05, 0x05000000, 0xFF00FFFF⟩,
    ⟨"SETCID", 0x06, 0x06000000, 0xFF00FFFF⟩,
    ⟨"CKSUM", 0x07, 0x07000000, 0xFF00FFFF⟩,
    ⟨"SER", 0x08, 0x08000000, 0xFFFFFFFF⟩,
    ⟨"WRX", 0x09, 0x09000000, 0xFF0000FF⟩,
    ⟨"DES", 0x0A, 0x0A000000, 0xFF00FFFF⟩,
    ⟨"SETMIN", 0x0B, 0x0B000000, 0xFF000000⟩,
    ⟨"SETMAX", 0x0C, 0x0C000000, 0xFF000000⟩,
    ⟨"XCHG", 0x0D, 0x0D000000, 0xFFFFFFFF⟩,
    ⟨"VALID", 0x0E, 0x0E000000, 0xFFFFFFFF⟩,
    ⟨"RDPKT", 0x0F, 0x0F000000, 0xFF0000FF⟩,
    ⟨"RDSUB", 0x10, 0x10000000, 0xFF0000FF⟩,
    ⟨"RDCSR", 0x11, 0x11000000, 0xFF00FFFF⟩ ]

end Sys2Proof
end

