-- ==== Sys2Proof/Machine/Port.lean ====
section
/-! DEFINITION. The command port (spec/43_exchange.md R193, spec/30_encoding.md R108, R109): which word is accepted
next, and the rejection of a word that is no command. -/

namespace Sys2Proof.Machine

open Sys2Proof

/-- The word the block accepts now: the one on the port, in phase `IDLE` only; otherwise it is held (R193). -/
def fetch (s : State) : Option CmdWord := if s.phase = .idle then s.port.head? else none

/-- The accepted word leaves the port. -/
def takeWord (s : State) : State := { s with port := s.port.tail }

/-- The completion code of an illegal word (R108, R109). -/
def rejectCode : DecodeError → CompletionCode
  | .badOp => .badOp
  | .badForm => .badForm

/-- An illegal word completes with its code, and no state changes (R108, R109, R271). -/
def rejectWord (e : DecodeError) (s : State) : State := raise (rejectCode e) 0 s

end Sys2Proof.Machine
end

