-- ==== Sys2Proof/Machine/Step.lean ====
section
/-! DEFINITION. One step of the block: accept the command on the port, or else consume the next event. -/

namespace Sys2Proof.Machine

open Sys2Proof

/-- One step (R8, R80, R193). In phase `IDLE` with a word on the port the block decodes and executes it, to its
completion or, for `XCHG`, to the start of the exchange. Otherwise the next event from outside is consumed; with
none left the block does nothing (R208, R300). -/
def step (s : State) : Host.Outcome State Fault Refusal :=
  match fetch s with
  | some w =>
    match decodeWord w with
    | .ok i => exec i (takeWord s)
    | .error e => .next (rejectWord e (takeWord s))
  | none => .next (nextEvent s)

/-- `s` with the command word on the port and the block in the phase that accepts it, so that the next step runs
it. -/
def State.withFetchWord (s : State) (nbits w : Nat) : State :=
  { s with phase := .idle, port := tableWord nbits w :: s.port }

end Sys2Proof.Machine
end

