-- ==== Sys2Proof/Safety.lean ====
section
/-! DEFINITION. The terms statements use: what a command's answer looks like, the invariant of the block, and the
order of the transfers it asks for. -/

namespace Sys2Proof.Machine

open Sys2Proof

/-- `s` after one more completion and nothing else. -/
def answered (c : CompletionCode) (d : BitVec 32) (s : State) : State :=
  { s with trace := s.trace ++ [.complete c d] }

/-- `s` with another request and the results of the last exchange invalidated (R46). -/
def withRequest (q : Packet) (s : State) : State := { s with req := q, xres := 0, xinfo := 0, cls := 0 }

/-- The output is a completion. -/
def Output.isCompletion : Output → Bool
  | .complete _ _ => true
  | _ => false

/-- The number of completions emitted so far. -/
def completions (s : State) : Nat := s.trace.countP Output.isCompletion

/-- The command succeeds and writes the request register (R36, R46). -/
def writesRequest : Instr → Bool
  | .build _ _ _ => true
  | .warg i _ => decide (i.toNat < 80)
  | .setdev v => decide (v.toNat ≤ 7)
  | .settid v => decide (v.toNat ≤ 31)
  | .setdir v => decide (v.toNat ≤ 1)
  | .setcid v => decide (v.toNat ≤ 127)
  | _ => false

/-- A command that only reads (R67). -/
def readsOnly : Instr → Bool
  | .rdpkt _ _ => true
  | .rdsub _ _ => true
  | .rdcsr _ => true
  | _ => false

/-- The transfers among the outputs, in order. -/
def transfers (tr : List Output) : List TransferReq :=
  tr.filterMap fun o =>
    match o with
    | .transfer r => some r
    | _ => none

/-- Every inbound request comes directly after an outbound request; `open_` says that the transfer before was
outbound (R74, R206). -/
def transfersOrdered : (open_ : Bool) → List TransferReq → Bool
  | _, [] => true
  | _, .outReq _ _ :: rest => transfersOrdered true rest
  | open_, .inReq _ _ :: rest => open_ && transfersOrdered false rest

/-- The last transfer asked for is outbound. -/
def lastTransferIsOut (tr : List Output) : Bool :=
  match (transfers tr).getLast? with
  | some (.outReq _ _) => true
  | _ => false

/-- The transfers asked for since the trace began are in order, and an exchange that has not yet asked for its
answer has asked for its outbound transfer last (R74). -/
structure TransfersInOrder (s : State) : Prop where
  ordered : transfersOrdered false (transfers s.trace) = true
  outLast : s.phase = .send ∨ s.phase = .wait → lastTransferIsOut s.trace = true

/-- The invariant of the block: the reserved codes are never produced, the constant fields of a request stay zero, and
an exchange in flight holds what 43_exchange.md R210 says it holds. -/
structure Inv (s : State) : Prop where
  /-- `XRES` 5, 6 and 7 are never written (R41). -/
  xresNamed : s.xres.toNat ≤ 4
  /-- `DeviceBusy` is never produced (R262). -/
  clsNotBusy : s.cls ≠ 3
  /-- A diagnostic record is never of `Matched` or `DeviceBusy` (R49, R262). -/
  diagclsNamed : s.diagcls ≠ 1 ∧ s.diagcls ≠ 3
  /-- `DIAGCLS` is 0 exactly while there has been no record (R49). -/
  diagNone : s.diagcls = 0 ↔ s.diagcnt = 0
  /-- The fields no command makes other than zero (R36, R110). -/
  reqConstant : s.req.status = 0 ∧ s.req.remainingPackets = 0 ∧ s.req.protocolType = 0 ∧ s.req.reserved = 0
  /-- `wait_ctr = 0` unless `phase = WAIT` (R210). -/
  waitZero : s.phase ≠ .wait → s.waitCtr = 0
  /-- In `WAIT`, `1 ≤ wait_ctr ≤ LASTW` (R210). -/
  waitRange : s.phase = .wait → 1 ≤ s.waitCtr.toNat ∧ s.waitCtr ≤ s.lastw
  /-- The wait drawn lies in the programmed interval (R199, R209). -/
  lastwRange : s.phase = .wait ∨ s.phase = .recv → s.minWait ≤ s.lastw ∧ s.lastw ≤ s.maxWait
  /-- What `XCHG` checked still holds (R194). -/
  accepted : s.phase ≠ .idle → s.req.dataSize.toNat ≤ 80 ∧ s.minWait ≤ s.maxWait
  /-- `rsp = ZeroPacket`, `rx_buf` zero and the results invalid throughout an exchange (R195, R210). -/
  cleared : s.phase ≠ .idle →
    s.rsp = Packet.zero ∧ s.rxBuf = Image.zeros ∧ s.xres = 0 ∧ s.xinfo = 0 ∧ s.cls = 0
  /-- `tx_buf = Ser(req)` with the stamped checksum, throughout an exchange and while its result stands (R41, R196,
  R210). -/
  frameSent : s.phase ≠ .idle ∨ s.xres ≠ 0 →
    s.txBuf = ser Config.params s.req ∧ s.req.crc = cksum s.txBuf
  /-- A failed exchange leaves the zero response (R195). -/
  failedZero : s.xres = xresSendError ∨ s.xres = xresRecvError ∨ s.xres = xresIncompleteTransfer →
    s.rsp = Packet.zero
  /-- The command in progress is the blocking `XCHG` of the exchange in flight (R193). -/
  inProgressXchg : s.inProgress = if s.phase = .idle then none else some .xchg
  /-- The pending transport request is the one the phase waits for (R30, R53). -/
  pendingMatches : s.pending =
    match s.phase with
    | .send => some (.outReq Config.params.outQuad s.txBuf)
    | .recv => some (.inReq Config.params.inQuad 90)
    | _ => none

end Sys2Proof.Machine
end

