-- ==== Sys2Proof/WellFormed.lean ====
section
/-! DEFINITION. Which commands have every operand inside the range spec/opcode_table.json names for it. An operand
outside its range is still a legal encoding: the command completes with `BAD_INDEX` or `FIELD_WIDTH` (R260), so the
decoder does not refuse it and this check is not part of decoding (log entry 13). -/

namespace Sys2Proof

/-- Every operand is in the range its row names: `args` index 0..79, wire offset 0..89, byte space 0..4, image
selector 0..3, packet 0..1, sub-field 0..3, CSR number 0..8 (`BAD_INDEX` otherwise), and a sub-field value of 3, 5,
1 or 7 bits (`FIELD_WIDTH` otherwise) (R260). `DES n` takes any byte. -/
def Instr.wellFormed : Instr → Bool
  | .build _ _ _ => true
  | .warg i _ => decide (i.toNat < 80)
  | .setdev v => decide (v.toNat ≤ 7)
  | .settid v => decide (v.toNat ≤ 31)
  | .setdir v => decide (v.toNat ≤ 1)
  | .setcid v => decide (v.toNat ≤ 127)
  | .cksum sel => decide (sel.toNat ≤ 3)
  | .ser => true
  | .wrx off _ => decide (off.toNat < 90)
  | .des _ => true
  | .setmin _ => true
  | .setmax _ => true
  | .xchg => true
  | .valid => true
  | .rdpkt sel off => decide (sel.toNat ≤ 4) && decide (off.toNat < 90)
  | .rdsub p f => decide (p.toNat ≤ 1) && decide (f.toNat ≤ 3)
  | .rdcsr n => decide (n.toNat ≤ 8)

end Sys2Proof
end

