-- ==== Sys2Proof/Certificates/Slice0/Obligations.lean ====
section
/-! DEFINITION. The statements about the block. `P` ranges over every legal choice of the open parameters of
spec/00_scope.md R7; the machine's own choice is the symbolic `Config.params`. -/

open Sys2Proof Sys2Proof.Machine

/-! ### Encodings (30_encoding.md) -/

/-- Decoding the word of a command gives the command back, every operand included (section 4). -/
def Obligations.DecodeOfEncodeIsTheCommand : Prop :=
  ∀ i : Instr, decodeWord (encode i) = .ok i

/-- A word that decodes is the encoding of what it decodes to: no bit is dropped and no two words are one command
(section 4). -/
def Obligations.EncodeOfDecodedIsTheWord : Prop :=
  ∀ (w : CmdWord) (i : Instr), decodeWord w = .ok i → encode i = w

/-- R114: the order of the decoder's checks, and its equivalence with the match and mask table. -/
def Obligations.DecodeAgreesWithMatchAndMask : Prop :=
  ∀ w : CmdWord,
    (decodeWord w = .error .badOp ↔ opOf w = 0 ∨ 0x12 ≤ (opOf w).toNat) ∧
    (decodeWord w = .error .badForm ↔
      ∃ fmt mk, opRow (opOf w) = some (fmt, mk) ∧ fmt.unusedZero (aOf w) (bOf w) (cOf w) = false) ∧
    (∀ i, decodeWord w = .ok i ↔
      ∃ fmt mk, opRow (opOf w) = some (fmt, mk) ∧ fmt.unusedZero (aOf w) (bOf w) (cOf w) = true ∧
        i = mk (aOf w) (bOf w) (cOf w)) ∧
    ((∃ i, decodeWord w = .ok i) ↔ ∃ r ∈ opcodeTable, r.accepts w = true) ∧
    (∀ i, ∀ r ∈ opcodeTable, decodeWord w = .ok i → r.accepts w = true → i.mnemonic = r.mnemonic) ∧
    (decodeWord w = .error .badOp ↔ ∀ r ∈ opcodeTable, r.op ≠ opOf w) ∧
    (decodeWord w = .error .badForm ↔
      (∃ r ∈ opcodeTable, r.op = opOf w) ∧ ∀ r ∈ opcodeTable, r.accepts w = false) ∧
    (∀ r ∈ opcodeTable, ∀ r' ∈ opcodeTable, r.accepts w = true → r'.accepts w = true → r = r')

/-- A few words written out from the encodings of R101 to R107 decode to the commands they stand for. -/
def Obligations.WrittenOutWordsDecode : Prop :=
  decodeWord 0x01038303 = .ok (.build 0x03 0x83 0x03) ∧
  decodeWord 0x02010500 = .ok (.warg 1 5) ∧
  decodeWord 0x06850000 = .ok (.setcid 0x85) ∧
  decodeWord 0x0A2A0000 = .ok (.des 42) ∧
  decodeWord 0x0B000258 = .ok (.setmin 600) ∧
  decodeWord 0x0D000000 = .ok .xchg ∧
  decodeWord 0x0F010A00 = .ok (.rdpkt 1 10) ∧
  decodeWord 0x11080000 = .ok (.rdcsr 8)

/-- R108, R109: a word with an illegal opcode completes with `BAD_OP`, one with a legal opcode whose unused operand
field is not zero, per its format, with `BAD_FORM`; no state changes, only the word has left the port. -/
def Obligations.IllegalWordsChangeNothing : Prop :=
  (∀ (s : State) (w : CmdWord) (rest : List CmdWord), s.phase = .idle → s.port = w :: rest →
    (w.extractLsb' 24 8 = 0 ∨ 0x12 ≤ (w.extractLsb' 24 8).toNat) →
    step s = .next (answered .badOp 0 { s with port := rest })) ∧
  (∀ w : CmdWord, 1 ≤ (w.extractLsb' 24 8).toNat → (w.extractLsb' 24 8).toNat ≤ 0x11 →
    decodeWord w ≠ .error .badOp) ∧
  (∀ (s : State) (w : CmdWord) (rest : List CmdWord) (op a b c : Byte), s.phase = .idle → s.port = w :: rest →
    w = op ++ a ++ b ++ c →
    (op ∈ [0x08, 0x0D, 0x0E] ∧ (a ≠ 0 ∨ b ≠ 0 ∨ c ≠ 0) ∨
      op ∈ [0x03, 0x04, 0x05, 0x06, 0x07, 0x0A, 0x11] ∧ (b ≠ 0 ∨ c ≠ 0) ∨
      op ∈ [0x02, 0x09, 0x0F, 0x10] ∧ c ≠ 0) →
    step s = .next (answered .badForm 0 { s with port := rest }))

/-! ### The step -/

/-- In phase `IDLE`, with the word of a command on the port, a step takes the word from the port and executes the
command it decodes to. -/
def Obligations.StepRunsTheDecodedCommand : Prop :=
  ∀ (s : State) (w : CmdWord) (rest : List CmdWord) (i : Instr), s.phase = .idle → s.port = w :: rest →
    decodeWord w = .ok i → step s = exec i { s with port := rest }

/-- While an exchange is in flight no command is executed, rejected or lost, whatever is presented: it waits on the
port, and nothing that only a command writes changes (43_exchange.md section 3). -/
def Obligations.CommandsAreHeldWhileBusy : Prop :=
  ∀ (s : State) (e : Event) (rest : List Event), s.phase ≠ .idle → s.events = e :: rest → e ≠ .reset →
    (∀ w, e = .present w → step s = .next { s with port := s.port ++ [w], events := rest }) ∧
    ∃ t, step s = .next t ∧ t.events = rest ∧
      ((∀ w, e ≠ .present w) → t.port = s.port) ∧
      t.req = s.req ∧ t.minWait = s.minWait ∧ t.maxWait = s.maxWait ∧ t.ckout = s.ckout ∧ t.cls = s.cls ∧
      t.txBuf = s.txBuf ∧ t.diagBuf = s.diagBuf ∧ t.diagcls = s.diagcls ∧ t.diagcnt = s.diagcnt

/-- No outcome is fatal: every command has a next state, and so has every step (60_exceptions.md section 4). With no
word to accept and nothing arriving the block stays as it is, as it does after reset (70_reset_and_hazards.md
section 1). -/
def Obligations.NothingStopsTheBlock : Prop :=
  (∀ (i : Instr) (s : State), ∃ t, exec i s = .next t) ∧ (∀ s : State, ∃ t, step s = .next t) ∧
  (∀ s : State, s.events = [] → s.phase ≠ .idle ∨ s.port = [] → step s = .next s) ∧
  step State.reset = .next State.reset

/-! ### The codec (40_codec.md) -/

/-- R130: the wire image, offset by offset; nothing else is read or computed. -/
def Obligations.SerPlacesEveryField : Prop :=
  ∀ (P : Params) (p : Packet),
    (ser P p)[0] = p.status ∧ (ser P p)[1] = p.transactionId ∧
    (P.remBigEndian = true →
      (ser P p)[2] = p.remainingPackets.extractLsb' 8 8 ∧ (ser P p)[3] = p.remainingPackets.extractLsb' 0 8) ∧
    (P.remBigEndian = false →
      (ser P p)[2] = p.remainingPackets.extractLsb' 0 8 ∧ (ser P p)[3] = p.remainingPackets.extractLsb' 8 8) ∧
    (ser P p)[4] = p.protocolType ∧ (ser P p)[5] = p.dataSize ∧
    (ser P p)[6] = p.commandClass ∧ (ser P p)[7] = p.commandId ∧
    (∀ (i : Nat) (h : i < 80), (ser P p)[8 + i] = p.args[i]) ∧
    (ser P p)[88] = p.crc ∧ (ser P p)[89] = p.reserved

/-- R131: the length is the only test, and each field comes from its offset. -/
def Obligations.DesTestsOnlyTheLength : Prop :=
  ∀ (P : Params) (b : List Byte),
    (b.length ≠ 90 → des P b = none) ∧
    (∀ h : b.length = 90, ∃ p, des P b = some p ∧
      p.status = b[0] ∧ p.transactionId = b[1] ∧
      p.remainingPackets = (if P.remBigEndian = true then b[2] ++ b[3] else b[3] ++ b[2]) ∧
      p.protocolType = b[4] ∧ p.dataSize = b[5] ∧ p.commandClass = b[6] ∧ p.commandId = b[7] ∧
      (∀ (i : Nat) (hi : i < 80), p.args[i] = b[8 + i]) ∧
      p.crc = b[88] ∧ p.reserved = b[89])

/-- R132: deserialising the image of a packet gives the packet back, sub-fields included. -/
def Obligations.DesOfSerIsThePacket : Prop :=
  ∀ (P : Params) (p : Packet),
    des P (ser P p).toList = some p ∧
    ∀ q, des P (ser P p).toList = some q →
      unpackTid P q.transactionId = unpackTid P p.transactionId ∧ unpackCid P q.commandId = unpackCid P p.commandId

/-- R139: `Ser` is a bijection from packets onto sequences of 90 bytes. -/
def Obligations.SerIsABijection : Prop :=
  ∀ P : Params,
    (∀ b : List Byte, b.length = 90 → ∃ p, des P b = some p ∧ (ser P p).toList = b) ∧
    (∀ p q : Packet, ser P p = ser P q ↔ p = q)

/-- R96, R98: `PackTid`, `PackCid` and their laws. -/
def Obligations.PackInvertsUnpack : Prop :=
  ∀ P : Params,
    (∀ (d : BitVec 3) (i : BitVec 5), unpackTid P (packTid P d i) = (d, i) ∧
      (packTid P d i).toNat =
        if P.subfieldMsbFirst = true then d.toNat * 32 + i.toNat else i.toNat * 8 + d.toNat) ∧
    (∀ t : Byte, packTid P (unpackTid P t).1 (unpackTid P t).2 = t) ∧
    (∀ (r : BitVec 1) (i : BitVec 7), unpackCid P (packCid P r i) = (r, i) ∧
      (packCid P r i).toNat =
        if P.subfieldMsbFirst = true then r.toNat * 128 + i.toNat else i.toNat * 2 + r.toNat) ∧
    ∀ c : Byte, packCid P (unpackCid P c).1 (unpackCid P c).2 = c

/-- `SER` fills the transmit buffer with the image of the request and changes nothing else; `crc` is not stamped
(section 2). -/
def Obligations.SerCommandFillsTransmitBuffer : Prop :=
  ∀ s : State, exec .ser s = .next (answered .ok 0 { s with txBuf := ser Config.params s.req })

/-- `WRX off, v` writes one byte of the receive buffer, and refuses an offset of 90 or more (section 2). -/
def Obligations.WrxWritesOneReceiveByte : Prop :=
  ∀ (off v : Byte) (s : State),
    (90 ≤ off.toNat → exec (.wrx off v) s = .next (answered .badIndex 0 s)) ∧
    (off.toNat < 90 → ∃ b : Image, exec (.wrx off v) s = .next (answered .ok 0 { s with rxBuf := b }) ∧
      ∀ (k : Nat) (h : k < 90), b[k] = if k = off.toNat then v else s.rxBuf[k])

/-- `DES n` loads the response from the receive buffer and invalidates; any other declared length is
`MALFORMED_RESPONSE` with that length as data, and nothing changes (section 2). -/
def Obligations.DesLoadsTheResponse : Prop :=
  ∀ (n : Byte) (s : State),
    (n.toNat ≠ 90 → exec (.des n) s = .next (answered .malformedResponse (n.setWidth 32) s)) ∧
    (n.toNat = 90 → ∃ p, des Config.params s.rxBuf.toList = some p ∧
      exec (.des n) s = .next (answered .ok 0 { s with rsp := p, xres := 0, xinfo := 0, cls := 0 }))

/-- `RDPKT s, off` answers with the byte of the space and changes nothing; a space above 4 or an offset of 90 or more
is `BAD_INDEX` (section 2). -/
def Obligations.RdpktReadsAnyByteSpace : Prop :=
  ∀ (sel off : Byte) (s : State),
    (4 < sel.toNat ∨ 90 ≤ off.toNat → exec (.rdpkt sel off) s = .next (answered .badIndex 0 s)) ∧
    (sel.toNat ≤ 4 → ∀ h : off.toNat < 90, ∃ w : Image,
      [ser Config.params s.req, ser Config.params s.rsp, s.txBuf, s.rxBuf, s.diagBuf][sel.toNat]? = some w ∧
      exec (.rdpkt sel off) s = .next (answered .ok (w[off.toNat].setWidth 32) s))

/-- `RDSUB p, f` answers with the sub-field and changes nothing; a packet above 1 or a sub-field above 3 is
`BAD_INDEX` (section 2). -/
def Obligations.RdsubReadsAnySubfield : Prop :=
  ∀ (p f : Byte) (s : State),
    (1 < p.toNat ∨ 3 < f.toNat → exec (.rdsub p f) s = .next (answered .badIndex 0 s)) ∧
    (p.toNat ≤ 1 → f.toNat ≤ 3 → ∃ (q : Packet) (v : BitVec 32),
      q = (if p = 0 then s.req else s.rsp) ∧
      [(unpackTid Config.params q.transactionId).1.setWidth 32, (unpackTid Config.params q.transactionId).2.setWidth 32,
        (unpackCid Config.params q.commandId).1.setWidth 32,
        (unpackCid Config.params q.commandId).2.setWidth 32][f.toNat]? = some v ∧
      exec (.rdsub p f) s = .next (answered .ok v s))

/-! ### The checksum (41_checksum.md) -/

/-- R160: the XOR of wire bytes 2 to 87; in fields, of everything between `transaction_id` and `crc`. -/
def Obligations.CksumIsXorOfTheDomain : Prop :=
  (∀ w : Image, cksum w = (List.range 86).foldl (fun acc k => acc ^^^ w.toList.getD (k + 2) 0) 0) ∧
  (∀ (P : Params) (p : Packet), cksum (ser P p) =
    p.args.toList.foldl (· ^^^ ·)
      (p.remainingPackets.extractLsb' 8 8 ^^^ p.remainingPackets.extractLsb' 0 8 ^^^ p.protocolType ^^^ p.dataSize ^^^
        p.commandClass ^^^ p.commandId))

/-- R161: the checksum depends on wire bytes 2 to 87 alone, not on `status`, `transaction_id`, `crc`, `reserved` nor on
a parameter; stamping a packet does not change its checksum. -/
def Obligations.CksumDependsOnTheDomainOnly : Prop :=
  (∀ w w' : Image, (∀ (k : Nat) (h : k < 90), 2 ≤ k → k ≤ 87 → w[k] = w'[k]) → cksum w = cksum w') ∧
  (∀ (P P' : Params) (p : Packet) (st tid c r : Byte),
    cksum (ser P { p with status := st, transactionId := tid, crc := c, reserved := r }) = cksum (ser P' p)) ∧
  (∀ (P : Params) (p : Packet), stamp P (stamp P p) = stamp P p)

/-- R162: one byte changed in the domain always changes the checksum; several change it unless their differences
cancel; a permutation never does. -/
def Obligations.CksumChangesExactlyByTheDifference : Prop :=
  (∀ (w w' : Image) (k : Nat) (h : k < 90), 2 ≤ k → k ≤ 87 → w[k] ≠ w'[k] →
    (∀ (j : Nat) (hj : j < 90), j ≠ k → w[j] = w'[j]) →
    cksum w' = cksum w ^^^ w[k] ^^^ w'[k] ∧ cksum w' ≠ cksum w) ∧
  (∀ w w' : Image, cksum w' = cksum w ↔
    (List.range 86).foldl
      (fun acc k => acc ^^^ (w.toList.getD (k + 2) 0 ^^^ w'.toList.getD (k + 2) 0)) 0 = 0) ∧
  (∀ w w' : Image, ((w.toList.drop 2).take 86).Perm ((w'.toList.drop 2).take 86) → cksum w = cksum w')

/-- `CKSUM s` computes the checksum of the image named, into `CKOUT` and the completion, and changes no packet; a
selector above 3 is `BAD_INDEX` (41_checksum.md). -/
def Obligations.CksumCommandReportsTheChecksum : Prop :=
  ∀ (sel : Byte) (s : State),
    (3 < sel.toNat → exec (.cksum sel) s = .next (answered .badIndex 0 s)) ∧
    (sel.toNat ≤ 3 → ∃ w : Image,
      [ser Config.params s.req, ser Config.params s.rsp, s.txBuf, s.rxBuf][sel.toNat]? = some w ∧
      exec (.cksum sel) s = .next (answered .ok ((cksum w).setWidth 32) { s with ckout := cksum w }))

/-! ### The builder (42_builder.md) -/

/-- `BUILD` overwrites every field of the request, whatever it held, and invalidates (sections 1 and 2). -/
def Obligations.BuildCreatesAFreshRequest : Prop :=
  ∀ (cls id size : Byte) (s : State), exec (.build cls id size) s = .next (answered .ok 0 (withRequest
    { status := 0, transactionId := 0x1F, remainingPackets := 0, protocolType := 0, dataSize := size,
      commandClass := cls, commandId := id, args := Vector.replicate 80 0, crc := 0, reserved := 0 } s))

/-- `WARG i, v` writes `args[i]` and no other part of the request, whatever `data_size` is, and invalidates; an index
of 80 or more is `BAD_INDEX` (section 2). -/
def Obligations.WargWritesOneArgument : Prop :=
  ∀ (i v : Byte) (s : State),
    (80 ≤ i.toNat → exec (.warg i v) s = .next (answered .badIndex 0 s)) ∧
    (i.toNat < 80 → ∃ a : Vector Byte 80,
      exec (.warg i v) s = .next (answered .ok 0 (withRequest { s.req with args := a } s)) ∧
      ∀ (k : Nat) (h : k < 80), a[k] = if k = i.toNat then v else s.req.args[k])

/-- `SETDEV` and `SETTID` write their sub-field of `transaction_id`, leave the other as it was and every other field too,
and refuse a value wider than the sub-field with `FIELD_WIDTH` (section 2). -/
def Obligations.TransactionIdWritersKeepTheNeighbour : Prop :=
  ∀ (v : Byte) (s : State),
    (7 < v.toNat → exec (.setdev v) s = .next (answered .fieldWidth 0 s)) ∧
    (v.toNat ≤ 7 → ∃ t : Byte,
      exec (.setdev v) s = .next (answered .ok 0 (withRequest { s.req with transactionId := t } s)) ∧
      (unpackTid Config.params t).1.toNat = v.toNat ∧
      (unpackTid Config.params t).2 = (unpackTid Config.params s.req.transactionId).2) ∧
    (31 < v.toNat → exec (.settid v) s = .next (answered .fieldWidth 0 s)) ∧
    (v.toNat ≤ 31 → ∃ t : Byte,
      exec (.settid v) s = .next (answered .ok 0 (withRequest { s.req with transactionId := t } s)) ∧
      (unpackTid Config.params t).2.toNat = v.toNat ∧
      (unpackTid Config.params t).1 = (unpackTid Config.params s.req.transactionId).1)

/-- `SETDIR` and `SETCID` write their sub-field of `command_id`, leave the other as it was and every other field too,
and refuse a value wider than the sub-field with `FIELD_WIDTH` (section 2). -/
def Obligations.CommandIdWritersKeepTheNeighbour : Prop :=
  ∀ (v : Byte) (s : State),
    (1 < v.toNat → exec (.setdir v) s = .next (answered .fieldWidth 0 s)) ∧
    (v.toNat ≤ 1 → ∃ c : Byte,
      exec (.setdir v) s = .next (answered .ok 0 (withRequest { s.req with commandId := c } s)) ∧
      (unpackCid Config.params c).1.toNat = v.toNat ∧
      (unpackCid Config.params c).2 = (unpackCid Config.params s.req.commandId).2) ∧
    (127 < v.toNat → exec (.setcid v) s = .next (answered .fieldWidth 0 s)) ∧
    (v.toNat ≤ 127 → ∃ c : Byte,
      exec (.setcid v) s = .next (answered .ok 0 (withRequest { s.req with commandId := c } s)) ∧
      (unpackCid Config.params c).2.toNat = v.toNat ∧
      (unpackCid Config.params c).1 = (unpackCid Config.params s.req.commandId).1)

/-! ### Registers and the validator (45_csr_access.md, 44_validator.md) -/

/-- `RDCSR n` answers with the register zero-extended and changes nothing; a number above 8 is `BAD_INDEX`. -/
def Obligations.RdcsrReadsEveryRegister : Prop :=
  ∀ (n : Byte) (s : State),
    (8 < n.toNat → exec (.rdcsr n) s = .next (answered .badIndex 0 s)) ∧
    (n.toNat ≤ 8 → ∃ v : BitVec 32,
      [s.xres.setWidth 32, s.xinfo.setWidth 32, s.cls.setWidth 32, s.ckout.setWidth 32, s.minWait.setWidth 32,
        s.maxWait.setWidth 32, s.lastw.setWidth 32, s.diagcnt.setWidth 32,
        s.diagcls.setWidth 32][n.toNat]? = some v ∧
      exec (.rdcsr n) s = .next (answered .ok v s))

/-- R230: the decision order of the validator, first match wins. -/
def Obligations.ClassifyTakesTheFirstMatch : Prop :=
  ∀ (P : Params) (x : BitVec 3) (q r : Packet),
    let differs := r.remainingPackets ≠ q.remainingPackets ∨ r.commandClass ≠ q.commandClass ∨
      r.commandId ≠ q.commandId
    (x ≠ 1 → classify P x q r = .transferError) ∧
    (x = 1 → differs → classify P x q r = .fieldMismatch) ∧
    (x = 1 → ¬ differs → r.status = P.statusFailure → classify P x q r = .commandFailed) ∧
    (x = 1 → ¬ differs → r.status = P.statusNotSupported → classify P x q r = .commandNotSupported) ∧
    (x = 1 → ¬ differs → r.status = P.statusTimeout → classify P x q r = .commandTimedOut) ∧
    (x = 1 → ¬ differs → r.status ≠ P.statusFailure → r.status ≠ P.statusNotSupported →
      r.status ≠ P.statusTimeout → classify P x q r = .matched)

/-- R237: exactly one of six verdicts, never `DeviceBusy`; `Matched` under exactly the stated conditions. -/
def Obligations.ClassifyNeverSaysBusy : Prop :=
  ∀ (P : Params) (x : BitVec 3) (q r : Packet),
    classify P x q r ≠ .deviceBusy ∧
    (classify P 1 q r = .matched ↔
      r.remainingPackets = q.remainingPackets ∧ r.commandClass = q.commandClass ∧ r.commandId = q.commandId ∧
        r.status ≠ P.statusFailure ∧ r.status ≠ P.statusNotSupported ∧ r.status ≠ P.statusTimeout)

/-- R236: the verdict depends on the three echoed fields and `status` alone. -/
def Obligations.ClassifyIgnoresTheOtherFields : Prop :=
  ∀ (P : Params) (x : BitVec 3) (q r q' r' : Packet),
    q.remainingPackets = q'.remainingPackets → q.commandClass = q'.commandClass → q.commandId = q'.commandId →
    r.remainingPackets = r'.remainingPackets → r.commandClass = r'.commandClass → r.commandId = r'.commandId →
    r.status = r'.status → classify P x q r = classify P x q' r'

/-- `VALID` completes `OK` with the verdict's code, writes it to `CLS`, and for every verdict but `Matched` keeps and
emits one diagnostic record of the response (section 2); the codes are written out verdict by verdict
(60_exceptions.md section 1). -/
def Obligations.ValidRecordsEveryBadVerdict : Prop :=
  ∀ s : State,
    (classify Config.params s.xres s.req s.rsp = .matched →
      exec .valid s = .next (answered .ok 1 { s with cls := 1 })) ∧
    (classify Config.params s.xres s.req s.rsp ≠ .matched → ∃ n : BitVec 3,
      (classify Config.params s.xres s.req s.rsp, n) ∈ [(Classification.fieldMismatch, 2), (.commandFailed, 4),
        (.commandNotSupported, 5), (.commandTimedOut, 6), (.transferError, 7)] ∧
      exec .valid s = .next (answered .ok (n.setWidth 32)
        { s with
          cls := n
          diagBuf := ser Config.params s.rsp
          diagcls := n
          diagcnt := if s.diagcnt = 0xFFFF then 0xFFFF else s.diagcnt + 1
          trace := s.trace ++ [.diag n (ser Config.params s.rsp)] }))

/-- After any write of the request, `VALID` answers `TransferError` whatever the response is
(10_state.md section 2, 70_reset_and_hazards.md section 3). -/
def Obligations.WritingTheRequestVoidsTheVerdict : Prop :=
  ∀ (i : Instr) (s : State), writesRequest i = true →
    ∃ t u, exec i s = .next t ∧ t.xres = 0 ∧ t.xinfo = 0 ∧ t.cls = 0 ∧
      exec .valid t = .next u ∧ u.cls = 7 ∧ u.trace.getLast? = some (.complete .ok 7)

/-! ### Completions and what commands leave alone (60_exceptions.md, 20_memory.md) -/

/-- R271: an accepted word, command or not, that completes with another code than `OK` completes with a code from 1 to
7, has changed nothing and has emitted nothing but its completion. -/
def Obligations.RejectedCommandChangesNothing : Prop :=
  ∀ (s t : State) (w : CmdWord) (rest : List CmdWord) (before : List Output) (c : CompletionCode) (d : BitVec 32),
    s.phase = .idle → s.port = w :: rest → step s = .next t → t.trace = before ++ [.complete c d] → c ≠ .ok →
    t = answered c d { s with port := rest } ∧ before = s.trace ∧ 1 ≤ c.code.toNat ∧ c.code.toNat ≤ 7

/-- Every command but an `XCHG` that starts an exchange produces exactly one completion; that `XCHG` produces none
yet. -/
def Obligations.CommandsCompleteExactlyOnce : Prop :=
  ∀ (i : Instr) (s : State), ∃ t, exec i s = .next t ∧
    (t.phase = s.phase ∧ completions t = completions s + 1 ∨
      i = .xchg ∧ t.phase = .send ∧ completions t = completions s)

/-- A command whose operands are in range completes `OK`, and one with an operand out of range completes with
`BAD_INDEX` or `FIELD_WIDTH` and changes nothing; `DES` and `XCHG` have checks of their own. -/
def Obligations.OperandRangesDecideTheCode : Prop :=
  ∀ (i : Instr) (s : State),
    (i.wellFormed = true → i ≠ .xchg → (∀ n, i ≠ .des n) →
      ∃ t d, exec i s = .next t ∧ t.trace.getLast? = some (.complete .ok d)) ∧
    (i.wellFormed = false →
      exec i s = .next (answered .badIndex 0 s) ∨ exec i s = .next (answered .fieldWidth 0 s))

/-- R67: reads by the host change no state, and reading again answers the same. -/
def Obligations.ReadsHaveNoSideEffect : Prop :=
  ∀ (i : Instr) (s : State), readsOnly i = true →
    ∃ c d, exec i s = .next (answered c d s) ∧ exec i (answered c d s) = .next (answered c d (answered c d s))

/-- Writing an argument changes one byte of the `REQ` space, at wire offset `8 + i`, and no byte of any other space
(10_state.md section 1, 20_memory.md section 1). -/
def Obligations.WargChangesOneWireByte : Prop :=
  ∀ (i v : Byte) (s : State), i.toNat < 80 → ∃ t, exec (.warg i v) s = .next t ∧
    ∀ (sp : Space) (off : Nat),
      memRead sp off t = if sp = .req ∧ off = 8 + i.toNat then some v else memRead sp off s

/-- The sub-field writers change at most the packed byte they write, at wire offset 1 or 7 of the `REQ` space. -/
def Obligations.SubfieldWritersChangeOneWireByte : Prop :=
  ∀ (i : Instr) (k : Nat) (v : Byte) (s : State),
    (i = .setdev v ∨ i = .settid v) ∧ k = 1 ∨ (i = .setdir v ∨ i = .setcid v) ∧ k = 7 →
    ∃ t, exec i s = .next t ∧
      ∀ (sp : Space) (off : Nat), ¬ (sp = .req ∧ off = k) → memRead sp off t = memRead sp off s

/-- `BUILD` changes the `REQ` space alone, `SER` the `TX` space alone, `DES` the `RSP` space alone, `VALID` the `DIAG`
space alone, and `WRX` the byte it writes. The start of an exchange changes the checksum byte of the `REQ` space, at
offset 88, makes `TX` that image and `RSP` and `RX` zero, and leaves `DIAG` (20_memory.md section 1). -/
def Obligations.BufferWritersLeaveTheRest : Prop :=
  (∀ (cls id size : Byte) (s : State), ∃ t, exec (.build cls id size) s = .next t ∧
    ∀ sp off, sp ≠ .req → memRead sp off t = memRead sp off s) ∧
  (∀ s : State, ∃ t, exec .ser s = .next t ∧ ∀ off, memRead .tx off t = memRead .req off s ∧
    ∀ sp, sp ≠ .tx → memRead sp off t = memRead sp off s) ∧
  (∀ (n : Byte) (s : State), n.toNat = 90 → ∃ t, exec (.des n) s = .next t ∧
    ∀ off, memRead .rsp off t = memRead .rx off s ∧ ∀ sp, sp ≠ .rsp → memRead sp off t = memRead sp off s) ∧
  (∀ s : State, ∃ t, exec .valid s = .next t ∧ ∀ off sp, sp ≠ .diag → memRead sp off t = memRead sp off s) ∧
  (∀ (off v : Byte) (s : State), off.toNat < 90 → ∃ t, exec (.wrx off v) s = .next t ∧
    ∀ (sp : Space) (k : Nat),
      memRead sp k t = if sp = .rx ∧ k = off.toNat then some v else memRead sp k s) ∧
  (∀ s : State, s.req.dataSize.toNat ≤ 80 → s.minWait ≤ s.maxWait → ∃ t, exec .xchg s = .next t ∧
    ∀ off : Nat,
      (off ≠ 88 → memRead .req off t = memRead .req off s) ∧
      memRead .tx off t = memRead .req off t ∧
      memRead .diag off t = memRead .diag off s ∧
      (off < 90 → memRead .rsp off t = some 0 ∧ memRead .rx off t = some 0))

/-- The commands that store nothing leave every byte of every space as it was. -/
def Obligations.OtherCommandsStoreNothing : Prop :=
  ∀ (i : Instr) (s : State),
    readsOnly i = true ∨ (∃ sel, i = .cksum sel) ∨ (∃ us, i = .setmin us) ∨ (∃ us, i = .setmax us) →
    ∃ t, exec i s = .next t ∧ t.req = s.req ∧ t.rsp = s.rsp ∧ t.phase = s.phase ∧
      ∀ (sp : Space) (off : Nat), memRead sp off t = memRead sp off s

/-! ### The exchange (43_exchange.md) -/

/-- `SETMIN` and `SETMAX` write their bound, any 24-bit value, and nothing else (section 2). -/
def Obligations.WaitBoundsAreWritten : Prop :=
  ∀ (us : Micros) (s : State),
    exec (.setmin us) s = .next (answered .ok 0 { s with minWait := us }) ∧
    exec (.setmax us) s = .next (answered .ok 0 { s with maxWait := us })

/-- `XCHG` refuses an oversized request first and an empty wait interval second, and changes nothing (section 4). -/
def Obligations.XchgChecksSizeThenInterval : Prop :=
  ∀ s : State,
    (80 < s.req.dataSize.toNat →
      exec .xchg s = .next (answered .dataSizeOverflow (s.req.dataSize.setWidth 32) s)) ∧
    (s.req.dataSize.toNat ≤ 80 → s.maxWait < s.minWait → exec .xchg s = .next (answered .waitRange 0 s))

/-- An accepted `XCHG` stamps the request, serialises it, zeroes the response and the receive buffer, asks for the
outbound transfer and enters `SEND`, and changes nothing else (section 4). -/
def Obligations.XchgStartsTheExchange : Prop :=
  ∀ s : State, s.req.dataSize.toNat ≤ 80 → s.minWait ≤ s.maxWait →
    ∃ (q : Packet) (w : Image),
      q = { s.req with crc := cksum (ser Config.params s.req) } ∧ w = ser Config.params q ∧ w[88] = cksum w ∧
      exec .xchg s = .next { s with
        req := q
        rsp := Packet.zero
        txBuf := w
        rxBuf := Image.zeros
        xres := 0
        xinfo := 0
        cls := 0
        lastw := 0
        phase := .send
        inProgress := some .xchg
        pending := some (.outReq Config.params.outQuad w)
        trace := s.trace ++ [.transfer (.outReq Config.params.outQuad w)] }

/-- A successful outbound transfer starts the settle wait, with a duration inside the programmed interval; any duration
of the interval is taken by some answer, and none leaves it (section 4). The answer's `pick` is the model's way to
bring the drawn value in (log entry 3). -/
def Obligations.SendSuccessStartsTheWait : Prop :=
  ∀ (s : State) (pick : Micros) (rest : List Event), s.phase = .send → s.minWait ≤ s.maxWait →
    s.events = .outRsp (.written 90) pick :: rest →
    ∃ w : Micros, s.minWait ≤ w ∧ w ≤ s.maxWait ∧ (s.minWait ≤ pick → pick ≤ s.maxWait → w = pick) ∧
      (w = 0 → step s = .next { s with
        events := rest
        lastw := 0
        waitCtr := 0
        phase := .recv
        pending := some (.inReq Config.params.inQuad 90)
        trace := s.trace ++ [.transfer (.inReq Config.params.inQuad 90)] }) ∧
      (w ≠ 0 → step s = .next { s with
        events := rest
        lastw := w
        waitCtr := w
        phase := .wait
        pending := none })

/-- A failed outbound transfer, an error or a count other than 90, ends the exchange at once; an error code of any
`TERR_WIDTH` is recorded whole, a count up to 65535 (section 4). -/
def Obligations.SendFailureEndsTheExchange : Prop :=
  ∀ (s : State) (a : OutAnswer) (pick : Micros) (rest : List Event), s.phase = .send →
    s.events = .outRsp a pick :: rest → a ≠ .written 90 →
    ∃ info : BitVec 16,
      (∀ e, a = .err e → info.toNat = e.toNat) ∧ (∀ n, a = .written n → info.toNat = min n 65535) ∧
      step s = .next (answered .xchgFailed 2 { s with
        events := rest
        xres := 2
        xinfo := info
        phase := .idle
        pending := none
        inProgress := none })

/-- One tick of the settle wait; the tick that brings `wait_ctr` to zero asks for the inbound transfer (section 4). -/
def Obligations.TickCountsTheWaitDown : Prop :=
  ∀ (s : State) (rest : List Event), s.phase = .wait → s.events = .tick :: rest →
    (1 < s.waitCtr.toNat → step s = .next { s with events := rest, waitCtr := s.waitCtr - 1 }) ∧
    (s.waitCtr = 1 → step s = .next { s with
      events := rest
      waitCtr := 0
      phase := .recv
      pending := some (.inReq Config.params.inQuad 90)
      trace := s.trace ++ [.transfer (.inReq Config.params.inQuad 90)] })

/-- Ninety bytes back: they are kept and deserialised as they are, and the `XCHG` completes `OK` (section 4). -/
def Obligations.NinetyBytesEndTheExchangeWell : Prop :=
  ∀ (s : State) (b : List Byte) (rest : List Event), s.phase = .recv → s.events = .inRsp (.data b) :: rest →
    b.length = 90 →
    ∃ (p : Packet) (w : Image), w.toList = b ∧ des Config.params b = some p ∧
      step s = .next (answered .ok 1 { s with
        events := rest
        rxBuf := w
        rsp := p
        xres := 1
        xinfo := 0
        phase := .idle
        pending := none
        inProgress := none })

/-- Any other answer of the inbound transfer fails the exchange; no byte of it is kept (section 4). -/
def Obligations.InboundFailureKeepsNoByte : Prop :=
  ∀ (s : State) (a : InAnswer) (rest : List Event), s.phase = .recv → s.events = .inRsp a :: rest →
    (∀ b, a = .data b → b.length ≠ 90) →
    ∃ (x : BitVec 3) (info : BitVec 16),
      (∀ b, a = .data b → x = 4 ∧ info.toNat = min b.length 65535) ∧ (∀ e, a = .err e → x = 3 ∧ info.toNat = e.toNat) ∧
      step s = .next (answered .xchgFailed (x.setWidth 32) { s with
        events := rest
        xres := x
        xinfo := info
        phase := .idle
        pending := none
        inProgress := none })

/-- R205: an event the controller is not waiting for is consumed and changes no state. -/
def Obligations.UnawaitedEventsAreIgnored : Prop :=
  ∀ (s : State) (e : Event) (rest : List Event), s.events = e :: rest → s.phase ≠ .idle ∨ s.port = [] →
    ((∃ a pick, e = .outRsp a pick) ∧ s.phase ≠ .send ∨ (∃ a, e = .inRsp a) ∧ s.phase ≠ .recv ∨
      e = .tick ∧ s.phase ≠ .wait) →
    step s = .next { s with events := rest }

/-- Whatever step the block takes, its phase stays, or moves as the phase machine allows, or a reset makes it `IDLE`
(section 6). -/
def Obligations.PhaseFollowsTheMachine : Prop :=
  ∀ s t : State, step s = .next t →
    t.phase = s.phase ∨
    (s.phase, t.phase) ∈ [(Phase.idle, Phase.send), (.send, .wait), (.send, .recv), (.send, .idle), (.wait, .recv),
      (.recv, .idle)] ∨
    (∃ rest, s.events = .reset :: rest) ∧ t.phase = .idle

/-- The settle wait takes exactly `wait_ctr` ticks: until the last the block stays in `WAIT` and emits nothing, and
the last asks for the inbound transfer (section 6). -/
def Obligations.SettleWaitTakesExactlyItsTicks : Prop :=
  ∀ (n : Nat) (s : State) (rest : List Event), s.phase = .wait → s.waitCtr.toNat = n → 1 ≤ n →
    s.events = List.replicate n .tick ++ rest →
    (∀ m, m < n → ∃ u, Sys2Proof.core.run m s = .next u ∧ u.phase = .wait ∧ u.waitCtr.toNat = n - m ∧
      u.trace = s.trace) ∧
    Sys2Proof.core.run n s = .next { s with
      events := rest
      waitCtr := 0
      phase := .recv
      pending := some (.inReq Config.params.inQuad 90)
      trace := s.trace ++ [.transfer (.inReq Config.params.inQuad 90)] }

/-- A whole round trip: an accepted `XCHG`, an outbound success, `pick` ticks and an inbound answer end with exactly one
completion, `OK` with the deserialised answer or `XCHG_FAILED` with the zero response; the wait recorded is the one
taken, and commands presented before stay on the port (sections 4 and 6). That the port can hold several words is the
model's choice (log entry 11), and so is the way the wait comes in (log entry 3). -/
def Obligations.RoundTripCompletesOnce : Prop :=
  ∀ (s : State) (cmds : List CmdWord) (pick : Micros) (a : InAnswer) (rest : List Event),
    s.phase = .idle → s.port = 0x0D000000 :: cmds → s.req.dataSize.toNat ≤ 80 →
    s.minWait ≤ pick → pick ≤ s.maxWait →
    s.events = .outRsp (.written 90) pick :: (List.replicate pick.toNat .tick ++ .inRsp a :: rest) →
    ∃ t, Sys2Proof.core.run (pick.toNat + 3) s = .next t ∧
      t.phase = .idle ∧ t.port = cmds ∧ t.events = rest ∧ t.lastw = pick ∧ t.waitCtr = 0 ∧ t.pending = none ∧
      t.req = stamp Config.params s.req ∧ t.txBuf = ser Config.params t.req ∧
      (∀ b p, a = .data b → des Config.params b = some p →
        t.xres = 1 ∧ t.xinfo = 0 ∧ t.rsp = p ∧ t.rxBuf.toList = b) ∧
      (∀ b, a = .data b → b.length ≠ 90 →
        t.xres = 4 ∧ t.xinfo.toNat = min b.length 65535 ∧ t.rsp = Packet.zero ∧ t.rxBuf = Image.zeros) ∧
      (∀ e, a = .err e → t.xres = 3 ∧ t.xinfo.toNat = e.toNat ∧ t.rsp = Packet.zero ∧ t.rxBuf = Image.zeros) ∧
      t.trace = s.trace ++ [.transfer (.outReq Config.params.outQuad t.txBuf),
        .transfer (.inReq Config.params.inQuad 90),
        .complete (if t.xres = 1 then .ok else .xchgFailed) (t.xres.setWidth 32)]

/-! ### Whole-machine rules -/

/-- R54: the state after reset, every piece of it. R52: the level `busy` is `phase ≠ IDLE` in every state, and while it
is 1 the command port accepts nothing. -/
def Obligations.ResetValues : Prop :=
  (∀ b ∈ (ser Config.params State.reset.req).toList, b = 0) ∧ State.reset.req = Packet.zero ∧
  State.reset.rsp = Packet.zero ∧ State.reset.phase = .idle ∧ State.reset.waitCtr = 0 ∧
  State.reset.txBuf = Vector.replicate 90 0 ∧ State.reset.rxBuf = Vector.replicate 90 0 ∧
  State.reset.diagBuf = Vector.replicate 90 0 ∧
  State.reset.xres = 0 ∧ State.reset.xinfo = 0 ∧ State.reset.cls = 0 ∧ State.reset.ckout = 0 ∧
  State.reset.minWait = 0 ∧ State.reset.maxWait = 0 ∧ State.reset.lastw = 0 ∧ State.reset.diagcnt = 0 ∧
  State.reset.diagcls = 0 ∧ State.reset.busy = false ∧ State.reset.pending = none ∧ State.reset.inProgress = none ∧
  (∀ s : State, s.busy = true ↔ s.phase ≠ .idle) ∧ ∀ s : State, s.busy = true → fetch s = none

/-- The step that consumes the reset input puts the block in the reset state, whatever state it was in, and no
completion is emitted for an exchange in flight. In `IDLE` with a word on the port the step before it takes that word
and leaves the reset next, one word a step: that order is the model's choice (log entry 2). That the words on the port
go and that the record of outputs stays is the model's choice too (log entry 4). -/
def Obligations.ResetEventAbandonsEverything : Prop :=
  ∀ (s : State) (rest : List Event), s.events = .reset :: rest →
    (s.phase ≠ .idle ∨ s.port = [] → step s = .next { State.reset with events := rest, trace := s.trace }) ∧
    ∀ (w : CmdWord) (words : List CmdWord), s.phase = .idle → s.port = w :: words →
      ∃ t, step s = .next t ∧ t.port = words ∧ t.events = .reset :: rest

/-- The response register is written by the start of an exchange, by its end, by `DES` and by reset, and by nothing
else (10_state.md section 1). -/
def Obligations.ResponseWriters : Prop :=
  ∀ s t : State, step s = .next t → t.rsp ≠ s.rsp →
    (∃ w, fetch s = some w ∧ (decodeWord w = .ok .xchg ∨ decodeWord w = .ok (.des 90))) ∨
    (fetch s = none ∧ ∃ rest, s.events = .reset :: rest) ∨
    (s.phase = .recv ∧ ∃ b rest, s.events = .inRsp (.data b) :: rest ∧ b.length = 90)

/-- `DIAGCNT` only grows, by at most one a step, until a reset clears it (60_exceptions.md section 4). -/
def Obligations.DiagnosticCountOnlyGrows : Prop :=
  ∀ s t : State, step s = .next t → (∀ rest, s.events ≠ .reset :: rest) →
    s.diagcnt.toNat ≤ t.diagcnt.toNat ∧ t.diagcnt.toNat ≤ s.diagcnt.toNat + 1 ∧
    (t.diagcnt ≠ s.diagcnt → ∃ w, fetch s = some w ∧ decodeWord w = .ok .valid)

/-- Every step keeps the invariant of the block. -/
def Obligations.StepKeepsTheBlockInvariant : Prop :=
  ∀ s t : State, Inv s → step s = .next t → Inv t

/-- Every step keeps the transfers in order: the block never asks for an inbound transfer but after the outbound
transfer of the same exchange, and never twice. -/
def Obligations.StepKeepsTransfersInOrder : Prop :=
  ∀ s t : State, TransfersInOrder s → step s = .next t → TransfersInOrder t

/-- The state after reset meets the invariant of the block and has its transfers in order. -/
def Obligations.ResetMeetsTheInvariants : Prop := Inv State.reset ∧ TransfersInOrder State.reset

/-- The numbers of the outcomes, name by name: the completion codes, the exchange results, the classifications, and
the two bits of `phase` (60_exceptions.md section 1, 10_state.md section 1). Every name is listed. -/
def Obligations.OutcomesHaveTheirNumbers : Prop :=
  (∀ c : CompletionCode, (c, c.code) ∈ [(CompletionCode.ok, 0), (.badOp, 1), (.badForm, 2), (.badIndex, 3),
    (.fieldWidth, 4), (.malformedResponse, 5), (.dataSizeOverflow, 6), (.waitRange, 7), (.xchgFailed, 8)]) ∧
  [xresNone, xresOk, xresSendError, xresRecvError, xresIncompleteTransfer] = [0, 1, 2, 3, 4] ∧
  (∀ k : Classification, (k, k.code) ∈ [(Classification.matched, 1), (.fieldMismatch, 2), (.deviceBusy, 3),
    (.commandFailed, 4), (.commandNotSupported, 5), (.commandTimedOut, 6), (.transferError, 7)]) ∧
  clsNone = 0 ∧
  ∀ ph : Phase, (ph, ph.code) ∈ [(Phase.idle, 0), (.send, 1), (.wait, 2), (.recv, 3)]
end

