-- ==== Sys2Proof/Laws/Decode.lean ====
section
/-! SUPPORT. The fields of a command word, and what decoding can answer. -/

namespace Sys2Proof

/-- Concatenation as numbers. -/
theorem append_toNat {n m : Nat} (x : BitVec n) (y : BitVec m) : (x ++ y).toNat = x.toNat * 2 ^ m + y.toNat := by
  rw [BitVec.toNat_append, ← Nat.shiftLeft_add_eq_or_of_lt y.isLt, Nat.shiftLeft_eq]

theorem cmdWord_toNat (op a b c : Byte) :
    (cmdWord op a b c).toNat = op.toNat * 2 ^ 24 + a.toNat * 2 ^ 16 + b.toNat * 2 ^ 8 + c.toNat := by
  have h : (cmdWord op a b c).toNat = ((op.toNat * 2 ^ 8 + a.toNat) * 2 ^ 8 + b.toNat) * 2 ^ 8 + c.toNat := by
    have h1 := append_toNat (op ++ a ++ b) c
    have h2 := append_toNat (op ++ a) b
    have h3 := append_toNat op a
    exact h1.trans (by rw [h2, h3])
  rw [h]
  ring

theorem imm24_toNat (a b c : Byte) : (imm24 a b c).toNat = a.toNat * 2 ^ 16 + b.toNat * 2 ^ 8 + c.toNat := by
  have h1 := append_toNat (a ++ b) c
  have h2 := append_toNat a b
  have h : (imm24 a b c).toNat = (a.toNat * 2 ^ 8 + b.toNat) * 2 ^ 8 + c.toNat := h1.trans (by rw [h2])
  rw [h]
  ring

theorem opOf_toNat (w : CmdWord) : (opOf w).toNat = w.toNat / 2 ^ 24 := by
  have := w.isLt
  simp [opOf, BitVec.extractLsb'_toNat, Nat.shiftRight_eq_div_pow]; omega

theorem aOf_toNat (w : CmdWord) : (aOf w).toNat = w.toNat / 2 ^ 16 % 2 ^ 8 := by
  simp [aOf, BitVec.extractLsb'_toNat, Nat.shiftRight_eq_div_pow]

theorem bOf_toNat (w : CmdWord) : (bOf w).toNat = w.toNat / 2 ^ 8 % 2 ^ 8 := by
  simp [bOf, BitVec.extractLsb'_toNat, Nat.shiftRight_eq_div_pow]

theorem cOf_toNat (w : CmdWord) : (cOf w).toNat = w.toNat % 2 ^ 8 := by
  simp [cOf, BitVec.extractLsb'_toNat]

@[simp] theorem opOf_cmdWord (op a b c : Byte) : opOf (cmdWord op a b c) = op := by
  apply BitVec.eq_of_toNat_eq; rw [opOf_toNat, cmdWord_toNat]; omega

@[simp] theorem aOf_cmdWord (op a b c : Byte) : aOf (cmdWord op a b c) = a := by
  apply BitVec.eq_of_toNat_eq; rw [aOf_toNat, cmdWord_toNat]; omega

@[simp] theorem bOf_cmdWord (op a b c : Byte) : bOf (cmdWord op a b c) = b := by
  apply BitVec.eq_of_toNat_eq; rw [bOf_toNat, cmdWord_toNat]; omega

@[simp] theorem cOf_cmdWord (op a b c : Byte) : cOf (cmdWord op a b c) = c := by
  apply BitVec.eq_of_toNat_eq; rw [cOf_toNat, cmdWord_toNat]; omega

/-- A word is its four fields. -/
theorem cmdWord_fields (w : CmdWord) : cmdWord (opOf w) (aOf w) (bOf w) (cOf w) = w := by
  apply BitVec.eq_of_toNat_eq
  rw [cmdWord_toNat, opOf_toNat, aOf_toNat, bOf_toNat, cOf_toNat]
  have := w.isLt
  omega

/-- An immediate is its three bytes. -/
theorem imm24_bytes (us : Micros) :
    imm24 (us.extractLsb' 16 8) (us.extractLsb' 8 8) (us.extractLsb' 0 8) = us := by
  apply BitVec.eq_of_toNat_eq
  rw [imm24_toNat]
  have := us.isLt
  simp [BitVec.extractLsb'_toNat, Nat.shiftRight_eq_div_pow]
  omega

/-- A word of format `I24` is the word of its immediate's three bytes. -/
theorem append_imm24 (op a b c : Byte) : (op ++ imm24 a b c : CmdWord) = cmdWord op a b c := by
  apply BitVec.eq_of_toNat_eq
  have h := append_toNat op (imm24 a b c)
  rw [imm24_toNat] at h
  rw [cmdWord_toNat]
  exact h.trans (by omega)

@[simp] theorem decodeWord_cmdWord (op a b c : Byte) : decodeWord (cmdWord op a b c) = decodeFields op a b c := by
  simp [decodeWord]

/-- What decoding can answer (R114). -/
theorem decodeFields_cases (op a b c : Byte) :
    (opRow op = none ∧ decodeFields op a b c = .error .badOp) ∨
    ∃ fmt mk, opRow op = some (fmt, mk) ∧
      ((fmt.unusedZero a b c = true ∧ decodeFields op a b c = .ok (mk a b c)) ∨
        (fmt.unusedZero a b c = false ∧ decodeFields op a b c = .error .badForm)) := by
  unfold decodeFields
  cases h : opRow op with
  | none => exact .inl ⟨rfl, rfl⟩
  | some row =>
    obtain ⟨fmt, mk⟩ := row
    cases hz : fmt.unusedZero a b c <;> simp [hz]

/-- An opcode has a row exactly when it is legal (R107, R108). -/
theorem opRow_isSome (op : Byte) : (opRow op).isSome = true ↔ 1 ≤ op.toNat ∧ op.toNat ≤ 0x11 := by
  unfold opRow
  split <;> simp_all
  omega

/-! ### The match and mask table -/

theorem cmdWord_inj (op a b c op' a' b' c' : Byte) :
    cmdWord op a b c = cmdWord op' a' b' c' ↔ op = op' ∧ a = a' ∧ b = b' ∧ c = c' := by
  constructor
  · intro h
    exact ⟨by simpa using congrArg opOf h, by simpa using congrArg aOf h, by simpa using congrArg bOf h,
      by simpa using congrArg cOf h⟩
  · rintro ⟨rfl, rfl, rfl, rfl⟩
    rfl

/-- Masking works field by field. -/
theorem and_cmdWord (op a b c op' a' b' c' : Byte) :
    cmdWord op a b c &&& cmdWord op' a' b' c' = cmdWord (op &&& op') (a &&& a') (b &&& b') (c &&& c') := by
  have slice : ∀ (x y : CmdWord) (k : Nat),
      (x &&& y).extractLsb' k 8 = x.extractLsb' k 8 &&& y.extractLsb' k 8 := by
    intro x y k
    ext i hi
    simp
  rw [← cmdWord_fields (cmdWord op a b c &&& cmdWord op' a' b' c'), cmdWord_inj]
  refine ⟨?_, ?_, ?_, ?_⟩
  · exact (slice ..).trans (congrArg₂ _ (opOf_cmdWord ..) (opOf_cmdWord ..))
  · exact (slice ..).trans (congrArg₂ _ (aOf_cmdWord ..) (aOf_cmdWord ..))
  · exact (slice ..).trans (congrArg₂ _ (bOf_cmdWord ..) (bOf_cmdWord ..))
  · exact (slice ..).trans (congrArg₂ _ (cOf_cmdWord ..) (cOf_cmdWord ..))

/-- A row accepts a word given by its fields: the test of R107, field by field. -/
theorem accepts_cmdWord (m : String) (o op a b c mo ma mb mc ko ka kb kc : Byte) :
    (OpcodeRow.mk m o (cmdWord mo ma mb mc) (cmdWord ko ka kb kc)).accepts (cmdWord op a b c) = true ↔
      op &&& ko = mo ∧ a &&& ka = ma ∧ b &&& kb = mb ∧ c &&& kc = mc := by
  simp only [OpcodeRow.accepts, and_cmdWord, beq_iff_eq, cmdWord_inj]

/-- The rows of the table by their fields. -/
theorem opcodeTable_fields : opcodeTable =
    [ ⟨"BUILD", 0x01, cmdWord 0x01 0 0 0, cmdWord 0xFF 0 0 0⟩,
      ⟨"WARG", 0x02, cmdWord 0x02 0 0 0, cmdWord 0xFF 0 0 0xFF⟩,
      ⟨"SETDEV", 0x03, cmdWord 0x03 0 0 0, cmdWord 0xFF 0 0xFF 0xFF⟩,
      ⟨"SETTID", 0x04, cmdWord 0x04 0 0 0, cmdWord 0xFF 0 0xFF 0xFF⟩,
      ⟨"SETDIR", 0x05, cmdWord 0x05 0 0 0, cmdWord 0xFF 0 0xFF 0xFF⟩,
      ⟨"SETCID", 0x06, cmdWord 0x06 0 0 0, cmdWord 0xFF 0 0xFF 0xFF⟩,
      ⟨"CKSUM", 0x07, cmdWord 0x07 0 0 0, cmdWord 0xFF 0 0xFF 0xFF⟩,
      ⟨"SER", 0x08, cmdWord 0x08 0 0 0, cmdWord 0xFF 0xFF 0xFF 0xFF⟩,
      ⟨"WRX", 0x09, cmdWord 0x09 0 0 0, cmdWord 0xFF 0 0 0xFF⟩,
      ⟨"DES", 0x0A, cmdWord 0x0A 0 0 0, cmdWord 0xFF 0 0xFF 0xFF⟩,
      ⟨"SETMIN", 0x0B, cmdWord 0x0B 0 0 0, cmdWord 0xFF 0 0 0⟩,
      ⟨"SETMAX", 0x0C, cmdWord 0x0C 0 0 0, cmdWord 0xFF 0 0 0⟩,
      ⟨"XCHG", 0x0D, cmdWord 0x0D 0 0 0, cmdWord 0xFF 0xFF 0xFF 0xFF⟩,
      ⟨"VALID", 0x0E, cmdWord 0x0E 0 0 0, cmdWord 0xFF 0xFF 0xFF 0xFF⟩,
      ⟨"RDPKT", 0x0F, cmdWord 0x0F 0 0 0, cmdWord 0xFF 0 0 0xFF⟩,
      ⟨"RDSUB", 0x10, cmdWord 0x10 0 0 0, cmdWord 0xFF 0 0 0xFF⟩,
      ⟨"RDCSR", 0x11, cmdWord 0x11 0 0 0, cmdWord 0xFF 0 0xFF 0xFF⟩ ] := by
  decide

end Sys2Proof
end

