-- ==== Sys2Proof/Laws/State.lean ====
section
/-! SUPPORT. What each shared update of the state does to each field: one lemma per field and update, so that no proof
unfolds a record update. -/

namespace Sys2Proof.Machine

open Sys2Proof

variable (s : State)

/-! ### `emit` -/

@[simp] theorem emit_req (o : Output) : (emit o s).req = s.req := rfl
@[simp] theorem emit_rsp (o : Output) : (emit o s).rsp = s.rsp := rfl
@[simp] theorem emit_phase (o : Output) : (emit o s).phase = s.phase := rfl
@[simp] theorem emit_waitCtr (o : Output) : (emit o s).waitCtr = s.waitCtr := rfl
@[simp] theorem emit_xres (o : Output) : (emit o s).xres = s.xres := rfl
@[simp] theorem emit_xinfo (o : Output) : (emit o s).xinfo = s.xinfo := rfl
@[simp] theorem emit_cls (o : Output) : (emit o s).cls = s.cls := rfl
@[simp] theorem emit_ckout (o : Output) : (emit o s).ckout = s.ckout := rfl
@[simp] theorem emit_minWait (o : Output) : (emit o s).minWait = s.minWait := rfl
@[simp] theorem emit_maxWait (o : Output) : (emit o s).maxWait = s.maxWait := rfl
@[simp] theorem emit_lastw (o : Output) : (emit o s).lastw = s.lastw := rfl
@[simp] theorem emit_diagcnt (o : Output) : (emit o s).diagcnt = s.diagcnt := rfl
@[simp] theorem emit_diagcls (o : Output) : (emit o s).diagcls = s.diagcls := rfl
@[simp] theorem emit_txBuf (o : Output) : (emit o s).txBuf = s.txBuf := rfl
@[simp] theorem emit_rxBuf (o : Output) : (emit o s).rxBuf = s.rxBuf := rfl
@[simp] theorem emit_diagBuf (o : Output) : (emit o s).diagBuf = s.diagBuf := rfl
@[simp] theorem emit_inProgress (o : Output) : (emit o s).inProgress = s.inProgress := rfl
@[simp] theorem emit_pending (o : Output) : (emit o s).pending = s.pending := rfl
@[simp] theorem emit_port (o : Output) : (emit o s).port = s.port := rfl
@[simp] theorem emit_events (o : Output) : (emit o s).events = s.events := rfl
@[simp] theorem emit_trace (o : Output) : (emit o s).trace = s.trace ++ [o] := rfl

/-! ### `complete` -/

@[simp] theorem complete_req (c : CompletionCode) (d : BitVec 32) : (complete c d s).req = s.req := rfl
@[simp] theorem complete_rsp (c : CompletionCode) (d : BitVec 32) : (complete c d s).rsp = s.rsp := rfl
@[simp] theorem complete_phase (c : CompletionCode) (d : BitVec 32) : (complete c d s).phase = s.phase := rfl
@[simp] theorem complete_waitCtr (c : CompletionCode) (d : BitVec 32) : (complete c d s).waitCtr = s.waitCtr := rfl
@[simp] theorem complete_xres (c : CompletionCode) (d : BitVec 32) : (complete c d s).xres = s.xres := rfl
@[simp] theorem complete_xinfo (c : CompletionCode) (d : BitVec 32) : (complete c d s).xinfo = s.xinfo := rfl
@[simp] theorem complete_cls (c : CompletionCode) (d : BitVec 32) : (complete c d s).cls = s.cls := rfl
@[simp] theorem complete_ckout (c : CompletionCode) (d : BitVec 32) : (complete c d s).ckout = s.ckout := rfl
@[simp] theorem complete_minWait (c : CompletionCode) (d : BitVec 32) : (complete c d s).minWait = s.minWait := rfl
@[simp] theorem complete_maxWait (c : CompletionCode) (d : BitVec 32) : (complete c d s).maxWait = s.maxWait := rfl
@[simp] theorem complete_lastw (c : CompletionCode) (d : BitVec 32) : (complete c d s).lastw = s.lastw := rfl
@[simp] theorem complete_diagcnt (c : CompletionCode) (d : BitVec 32) : (complete c d s).diagcnt = s.diagcnt := rfl
@[simp] theorem complete_diagcls (c : CompletionCode) (d : BitVec 32) : (complete c d s).diagcls = s.diagcls := rfl
@[simp] theorem complete_txBuf (c : CompletionCode) (d : BitVec 32) : (complete c d s).txBuf = s.txBuf := rfl
@[simp] theorem complete_rxBuf (c : CompletionCode) (d : BitVec 32) : (complete c d s).rxBuf = s.rxBuf := rfl
@[simp] theorem complete_diagBuf (c : CompletionCode) (d : BitVec 32) : (complete c d s).diagBuf = s.diagBuf := rfl
@[simp] theorem complete_inProgress (c : CompletionCode) (d : BitVec 32) : (complete c d s).inProgress = s.inProgress := rfl
@[simp] theorem complete_pending (c : CompletionCode) (d : BitVec 32) : (complete c d s).pending = s.pending := rfl
@[simp] theorem complete_port (c : CompletionCode) (d : BitVec 32) : (complete c d s).port = s.port := rfl
@[simp] theorem complete_events (c : CompletionCode) (d : BitVec 32) : (complete c d s).events = s.events := rfl
@[simp] theorem complete_trace (c : CompletionCode) (d : BitVec 32) : (complete c d s).trace = s.trace ++ [.complete c d] := rfl

/-! ### `raise` -/

@[simp] theorem raise_req (c : CompletionCode) (d : BitVec 32) : (raise c d s).req = s.req := rfl
@[simp] theorem raise_rsp (c : CompletionCode) (d : BitVec 32) : (raise c d s).rsp = s.rsp := rfl
@[simp] theorem raise_phase (c : CompletionCode) (d : BitVec 32) : (raise c d s).phase = s.phase := rfl
@[simp] theorem raise_waitCtr (c : CompletionCode) (d : BitVec 32) : (raise c d s).waitCtr = s.waitCtr := rfl
@[simp] theorem raise_xres (c : CompletionCode) (d : BitVec 32) : (raise c d s).xres = s.xres := rfl
@[simp] theorem raise_xinfo (c : CompletionCode) (d : BitVec 32) : (raise c d s).xinfo = s.xinfo := rfl
@[simp] theorem raise_cls (c : CompletionCode) (d : BitVec 32) : (raise c d s).cls = s.cls := rfl
@[simp] theorem raise_ckout (c : CompletionCode) (d : BitVec 32) : (raise c d s).ckout = s.ckout := rfl
@[simp] theorem raise_minWait (c : CompletionCode) (d : BitVec 32) : (raise c d s).minWait = s.minWait := rfl
@[simp] theorem raise_maxWait (c : CompletionCode) (d : BitVec 32) : (raise c d s).maxWait = s.maxWait := rfl
@[simp] theorem raise_lastw (c : CompletionCode) (d : BitVec 32) : (raise c d s).lastw = s.lastw := rfl
@[simp] theorem raise_diagcnt (c : CompletionCode) (d : BitVec 32) : (raise c d s).diagcnt = s.diagcnt := rfl
@[simp] theorem raise_diagcls (c : CompletionCode) (d : BitVec 32) : (raise c d s).diagcls = s.diagcls := rfl
@[simp] theorem raise_txBuf (c : CompletionCode) (d : BitVec 32) : (raise c d s).txBuf = s.txBuf := rfl
@[simp] theorem raise_rxBuf (c : CompletionCode) (d : BitVec 32) : (raise c d s).rxBuf = s.rxBuf := rfl
@[simp] theorem raise_diagBuf (c : CompletionCode) (d : BitVec 32) : (raise c d s).diagBuf = s.diagBuf := rfl
@[simp] theorem raise_inProgress (c : CompletionCode) (d : BitVec 32) : (raise c d s).inProgress = s.inProgress := rfl
@[simp] theorem raise_pending (c : CompletionCode) (d : BitVec 32) : (raise c d s).pending = s.pending := rfl
@[simp] theorem raise_port (c : CompletionCode) (d : BitVec 32) : (raise c d s).port = s.port := rfl
@[simp] theorem raise_events (c : CompletionCode) (d : BitVec 32) : (raise c d s).events = s.events := rfl
@[simp] theorem raise_trace (c : CompletionCode) (d : BitVec 32) : (raise c d s).trace = s.trace ++ [.complete c d] := rfl

/-! ### `invalidate` -/

@[simp] theorem invalidate_req : (invalidate s).req = s.req := rfl
@[simp] theorem invalidate_rsp : (invalidate s).rsp = s.rsp := rfl
@[simp] theorem invalidate_phase : (invalidate s).phase = s.phase := rfl
@[simp] theorem invalidate_waitCtr : (invalidate s).waitCtr = s.waitCtr := rfl
@[simp] theorem invalidate_xres : (invalidate s).xres = 0 := rfl
@[simp] theorem invalidate_xinfo : (invalidate s).xinfo = 0 := rfl
@[simp] theorem invalidate_cls : (invalidate s).cls = 0 := rfl
@[simp] theorem invalidate_ckout : (invalidate s).ckout = s.ckout := rfl
@[simp] theorem invalidate_minWait : (invalidate s).minWait = s.minWait := rfl
@[simp] theorem invalidate_maxWait : (invalidate s).maxWait = s.maxWait := rfl
@[simp] theorem invalidate_lastw : (invalidate s).lastw = s.lastw := rfl
@[simp] theorem invalidate_diagcnt : (invalidate s).diagcnt = s.diagcnt := rfl
@[simp] theorem invalidate_diagcls : (invalidate s).diagcls = s.diagcls := rfl
@[simp] theorem invalidate_txBuf : (invalidate s).txBuf = s.txBuf := rfl
@[simp] theorem invalidate_rxBuf : (invalidate s).rxBuf = s.rxBuf := rfl
@[simp] theorem invalidate_diagBuf : (invalidate s).diagBuf = s.diagBuf := rfl
@[simp] theorem invalidate_inProgress : (invalidate s).inProgress = s.inProgress := rfl
@[simp] theorem invalidate_pending : (invalidate s).pending = s.pending := rfl
@[simp] theorem invalidate_port : (invalidate s).port = s.port := rfl
@[simp] theorem invalidate_events : (invalidate s).events = s.events := rfl
@[simp] theorem invalidate_trace : (invalidate s).trace = s.trace := rfl

/-! ### `writeReq` -/

@[simp] theorem writeReq_req (p : Packet) : (writeReq p s).req = p := rfl
@[simp] theorem writeReq_rsp (p : Packet) : (writeReq p s).rsp = s.rsp := rfl
@[simp] theorem writeReq_phase (p : Packet) : (writeReq p s).phase = s.phase := rfl
@[simp] theorem writeReq_waitCtr (p : Packet) : (writeReq p s).waitCtr = s.waitCtr := rfl
@[simp] theorem writeReq_xres (p : Packet) : (writeReq p s).xres = 0 := rfl
@[simp] theorem writeReq_xinfo (p : Packet) : (writeReq p s).xinfo = 0 := rfl
@[simp] theorem writeReq_cls (p : Packet) : (writeReq p s).cls = 0 := rfl
@[simp] theorem writeReq_ckout (p : Packet) : (writeReq p s).ckout = s.ckout := rfl
@[simp] theorem writeReq_minWait (p : Packet) : (writeReq p s).minWait = s.minWait := rfl
@[simp] theorem writeReq_maxWait (p : Packet) : (writeReq p s).maxWait = s.maxWait := rfl
@[simp] theorem writeReq_lastw (p : Packet) : (writeReq p s).lastw = s.lastw := rfl
@[simp] theorem writeReq_diagcnt (p : Packet) : (writeReq p s).diagcnt = s.diagcnt := rfl
@[simp] theorem writeReq_diagcls (p : Packet) : (writeReq p s).diagcls = s.diagcls := rfl
@[simp] theorem writeReq_txBuf (p : Packet) : (writeReq p s).txBuf = s.txBuf := rfl
@[simp] theorem writeReq_rxBuf (p : Packet) : (writeReq p s).rxBuf = s.rxBuf := rfl
@[simp] theorem writeReq_diagBuf (p : Packet) : (writeReq p s).diagBuf = s.diagBuf := rfl
@[simp] theorem writeReq_inProgress (p : Packet) : (writeReq p s).inProgress = s.inProgress := rfl
@[simp] theorem writeReq_pending (p : Packet) : (writeReq p s).pending = s.pending := rfl
@[simp] theorem writeReq_port (p : Packet) : (writeReq p s).port = s.port := rfl
@[simp] theorem writeReq_events (p : Packet) : (writeReq p s).events = s.events := rfl
@[simp] theorem writeReq_trace (p : Packet) : (writeReq p s).trace = s.trace := rfl

/-! ### `writeRsp` -/

@[simp] theorem writeRsp_req (p : Packet) : (writeRsp p s).req = s.req := rfl
@[simp] theorem writeRsp_rsp (p : Packet) : (writeRsp p s).rsp = p := rfl
@[simp] theorem writeRsp_phase (p : Packet) : (writeRsp p s).phase = s.phase := rfl
@[simp] theorem writeRsp_waitCtr (p : Packet) : (writeRsp p s).waitCtr = s.waitCtr := rfl
@[simp] theorem writeRsp_xres (p : Packet) : (writeRsp p s).xres = 0 := rfl
@[simp] theorem writeRsp_xinfo (p : Packet) : (writeRsp p s).xinfo = 0 := rfl
@[simp] theorem writeRsp_cls (p : Packet) : (writeRsp p s).cls = 0 := rfl
@[simp] theorem writeRsp_ckout (p : Packet) : (writeRsp p s).ckout = s.ckout := rfl
@[simp] theorem writeRsp_minWait (p : Packet) : (writeRsp p s).minWait = s.minWait := rfl
@[simp] theorem writeRsp_maxWait (p : Packet) : (writeRsp p s).maxWait = s.maxWait := rfl
@[simp] theorem writeRsp_lastw (p : Packet) : (writeRsp p s).lastw = s.lastw := rfl
@[simp] theorem writeRsp_diagcnt (p : Packet) : (writeRsp p s).diagcnt = s.diagcnt := rfl
@[simp] theorem writeRsp_diagcls (p : Packet) : (writeRsp p s).diagcls = s.diagcls := rfl
@[simp] theorem writeRsp_txBuf (p : Packet) : (writeRsp p s).txBuf = s.txBuf := rfl
@[simp] theorem writeRsp_rxBuf (p : Packet) : (writeRsp p s).rxBuf = s.rxBuf := rfl
@[simp] theorem writeRsp_diagBuf (p : Packet) : (writeRsp p s).diagBuf = s.diagBuf := rfl
@[simp] theorem writeRsp_inProgress (p : Packet) : (writeRsp p s).inProgress = s.inProgress := rfl
@[simp] theorem writeRsp_pending (p : Packet) : (writeRsp p s).pending = s.pending := rfl
@[simp] theorem writeRsp_port (p : Packet) : (writeRsp p s).port = s.port := rfl
@[simp] theorem writeRsp_events (p : Packet) : (writeRsp p s).events = s.events := rfl
@[simp] theorem writeRsp_trace (p : Packet) : (writeRsp p s).trace = s.trace := rfl

/-! ### `writeRx` -/

@[simp] theorem writeRx_req (k : Nat) (v : Byte) : (writeRx k v s).req = s.req := rfl
@[simp] theorem writeRx_rsp (k : Nat) (v : Byte) : (writeRx k v s).rsp = s.rsp := rfl
@[simp] theorem writeRx_phase (k : Nat) (v : Byte) : (writeRx k v s).phase = s.phase := rfl
@[simp] theorem writeRx_waitCtr (k : Nat) (v : Byte) : (writeRx k v s).waitCtr = s.waitCtr := rfl
@[simp] theorem writeRx_xres (k : Nat) (v : Byte) : (writeRx k v s).xres = s.xres := rfl
@[simp] theorem writeRx_xinfo (k : Nat) (v : Byte) : (writeRx k v s).xinfo = s.xinfo := rfl
@[simp] theorem writeRx_cls (k : Nat) (v : Byte) : (writeRx k v s).cls = s.cls := rfl
@[simp] theorem writeRx_ckout (k : Nat) (v : Byte) : (writeRx k v s).ckout = s.ckout := rfl
@[simp] theorem writeRx_minWait (k : Nat) (v : Byte) : (writeRx k v s).minWait = s.minWait := rfl
@[simp] theorem writeRx_maxWait (k : Nat) (v : Byte) : (writeRx k v s).maxWait = s.maxWait := rfl
@[simp] theorem writeRx_lastw (k : Nat) (v : Byte) : (writeRx k v s).lastw = s.lastw := rfl
@[simp] theorem writeRx_diagcnt (k : Nat) (v : Byte) : (writeRx k v s).diagcnt = s.diagcnt := rfl
@[simp] theorem writeRx_diagcls (k : Nat) (v : Byte) : (writeRx k v s).diagcls = s.diagcls := rfl
@[simp] theorem writeRx_txBuf (k : Nat) (v : Byte) : (writeRx k v s).txBuf = s.txBuf := rfl
@[simp] theorem writeRx_rxBuf (k : Nat) (v : Byte) : (writeRx k v s).rxBuf = s.rxBuf.setIfInBounds k v := rfl
@[simp] theorem writeRx_diagBuf (k : Nat) (v : Byte) : (writeRx k v s).diagBuf = s.diagBuf := rfl
@[simp] theorem writeRx_inProgress (k : Nat) (v : Byte) : (writeRx k v s).inProgress = s.inProgress := rfl
@[simp] theorem writeRx_pending (k : Nat) (v : Byte) : (writeRx k v s).pending = s.pending := rfl
@[simp] theorem writeRx_port (k : Nat) (v : Byte) : (writeRx k v s).port = s.port := rfl
@[simp] theorem writeRx_events (k : Nat) (v : Byte) : (writeRx k v s).events = s.events := rfl
@[simp] theorem writeRx_trace (k : Nat) (v : Byte) : (writeRx k v s).trace = s.trace := rfl

/-! ### `takeWord` -/

@[simp] theorem takeWord_req : (takeWord s).req = s.req := rfl
@[simp] theorem takeWord_rsp : (takeWord s).rsp = s.rsp := rfl
@[simp] theorem takeWord_phase : (takeWord s).phase = s.phase := rfl
@[simp] theorem takeWord_waitCtr : (takeWord s).waitCtr = s.waitCtr := rfl
@[simp] theorem takeWord_xres : (takeWord s).xres = s.xres := rfl
@[simp] theorem takeWord_xinfo : (takeWord s).xinfo = s.xinfo := rfl
@[simp] theorem takeWord_cls : (takeWord s).cls = s.cls := rfl
@[simp] theorem takeWord_ckout : (takeWord s).ckout = s.ckout := rfl
@[simp] theorem takeWord_minWait : (takeWord s).minWait = s.minWait := rfl
@[simp] theorem takeWord_maxWait : (takeWord s).maxWait = s.maxWait := rfl
@[simp] theorem takeWord_lastw : (takeWord s).lastw = s.lastw := rfl
@[simp] theorem takeWord_diagcnt : (takeWord s).diagcnt = s.diagcnt := rfl
@[simp] theorem takeWord_diagcls : (takeWord s).diagcls = s.diagcls := rfl
@[simp] theorem takeWord_txBuf : (takeWord s).txBuf = s.txBuf := rfl
@[simp] theorem takeWord_rxBuf : (takeWord s).rxBuf = s.rxBuf := rfl
@[simp] theorem takeWord_diagBuf : (takeWord s).diagBuf = s.diagBuf := rfl
@[simp] theorem takeWord_inProgress : (takeWord s).inProgress = s.inProgress := rfl
@[simp] theorem takeWord_pending : (takeWord s).pending = s.pending := rfl
@[simp] theorem takeWord_port : (takeWord s).port = s.port.tail := rfl
@[simp] theorem takeWord_events : (takeWord s).events = s.events := rfl
@[simp] theorem takeWord_trace : (takeWord s).trace = s.trace := rfl

/-! ### `request` -/

@[simp] theorem request_req (r : TransferReq) : (request r s).req = s.req := rfl
@[simp] theorem request_rsp (r : TransferReq) : (request r s).rsp = s.rsp := rfl
@[simp] theorem request_phase (r : TransferReq) : (request r s).phase = s.phase := rfl
@[simp] theorem request_waitCtr (r : TransferReq) : (request r s).waitCtr = s.waitCtr := rfl
@[simp] theorem request_xres (r : TransferReq) : (request r s).xres = s.xres := rfl
@[simp] theorem request_xinfo (r : TransferReq) : (request r s).xinfo = s.xinfo := rfl
@[simp] theorem request_cls (r : TransferReq) : (request r s).cls = s.cls := rfl
@[simp] theorem request_ckout (r : TransferReq) : (request r s).ckout = s.ckout := rfl
@[simp] theorem request_minWait (r : TransferReq) : (request r s).minWait = s.minWait := rfl
@[simp] theorem request_maxWait (r : TransferReq) : (request r s).maxWait = s.maxWait := rfl
@[simp] theorem request_lastw (r : TransferReq) : (request r s).lastw = s.lastw := rfl
@[simp] theorem request_diagcnt (r : TransferReq) : (request r s).diagcnt = s.diagcnt := rfl
@[simp] theorem request_diagcls (r : TransferReq) : (request r s).diagcls = s.diagcls := rfl
@[simp] theorem request_txBuf (r : TransferReq) : (request r s).txBuf = s.txBuf := rfl
@[simp] theorem request_rxBuf (r : TransferReq) : (request r s).rxBuf = s.rxBuf := rfl
@[simp] theorem request_diagBuf (r : TransferReq) : (request r s).diagBuf = s.diagBuf := rfl
@[simp] theorem request_inProgress (r : TransferReq) : (request r s).inProgress = s.inProgress := rfl
@[simp] theorem request_pending (r : TransferReq) : (request r s).pending = some r := rfl
@[simp] theorem request_port (r : TransferReq) : (request r s).port = s.port := rfl
@[simp] theorem request_events (r : TransferReq) : (request r s).events = s.events := rfl
@[simp] theorem request_trace (r : TransferReq) : (request r s).trace = s.trace ++ [.transfer r] := rfl

/-! ### `enterRecv` -/

@[simp] theorem enterRecv_req : (enterRecv s).req = s.req := rfl
@[simp] theorem enterRecv_rsp : (enterRecv s).rsp = s.rsp := rfl
@[simp] theorem enterRecv_phase : (enterRecv s).phase = .recv := rfl
@[simp] theorem enterRecv_waitCtr : (enterRecv s).waitCtr = s.waitCtr := rfl
@[simp] theorem enterRecv_xres : (enterRecv s).xres = s.xres := rfl
@[simp] theorem enterRecv_xinfo : (enterRecv s).xinfo = s.xinfo := rfl
@[simp] theorem enterRecv_cls : (enterRecv s).cls = s.cls := rfl
@[simp] theorem enterRecv_ckout : (enterRecv s).ckout = s.ckout := rfl
@[simp] theorem enterRecv_minWait : (enterRecv s).minWait = s.minWait := rfl
@[simp] theorem enterRecv_maxWait : (enterRecv s).maxWait = s.maxWait := rfl
@[simp] theorem enterRecv_lastw : (enterRecv s).lastw = s.lastw := rfl
@[simp] theorem enterRecv_diagcnt : (enterRecv s).diagcnt = s.diagcnt := rfl
@[simp] theorem enterRecv_diagcls : (enterRecv s).diagcls = s.diagcls := rfl
@[simp] theorem enterRecv_txBuf : (enterRecv s).txBuf = s.txBuf := rfl
@[simp] theorem enterRecv_rxBuf : (enterRecv s).rxBuf = s.rxBuf := rfl
@[simp] theorem enterRecv_diagBuf : (enterRecv s).diagBuf = s.diagBuf := rfl
@[simp] theorem enterRecv_inProgress : (enterRecv s).inProgress = s.inProgress := rfl
@[simp] theorem enterRecv_pending : (enterRecv s).pending = some inRequest := rfl
@[simp] theorem enterRecv_port : (enterRecv s).port = s.port := rfl
@[simp] theorem enterRecv_events : (enterRecv s).events = s.events := rfl
@[simp] theorem enterRecv_trace : (enterRecv s).trace = s.trace ++ [.transfer inRequest] := rfl

/-! ### `endExchange` -/

@[simp] theorem endExchange_req (x : BitVec 3) (n : BitVec 16) : (endExchange x n s).req = s.req := rfl
@[simp] theorem endExchange_rsp (x : BitVec 3) (n : BitVec 16) : (endExchange x n s).rsp = s.rsp := rfl
@[simp] theorem endExchange_phase (x : BitVec 3) (n : BitVec 16) : (endExchange x n s).phase = .idle := rfl
@[simp] theorem endExchange_waitCtr (x : BitVec 3) (n : BitVec 16) : (endExchange x n s).waitCtr = s.waitCtr := rfl
@[simp] theorem endExchange_xres (x : BitVec 3) (n : BitVec 16) : (endExchange x n s).xres = x := rfl
@[simp] theorem endExchange_xinfo (x : BitVec 3) (n : BitVec 16) : (endExchange x n s).xinfo = n := rfl
@[simp] theorem endExchange_cls (x : BitVec 3) (n : BitVec 16) : (endExchange x n s).cls = s.cls := rfl
@[simp] theorem endExchange_ckout (x : BitVec 3) (n : BitVec 16) : (endExchange x n s).ckout = s.ckout := rfl
@[simp] theorem endExchange_minWait (x : BitVec 3) (n : BitVec 16) : (endExchange x n s).minWait = s.minWait := rfl
@[simp] theorem endExchange_maxWait (x : BitVec 3) (n : BitVec 16) : (endExchange x n s).maxWait = s.maxWait := rfl
@[simp] theorem endExchange_lastw (x : BitVec 3) (n : BitVec 16) : (endExchange x n s).lastw = s.lastw := rfl
@[simp] theorem endExchange_diagcnt (x : BitVec 3) (n : BitVec 16) : (endExchange x n s).diagcnt = s.diagcnt := rfl
@[simp] theorem endExchange_diagcls (x : BitVec 3) (n : BitVec 16) : (endExchange x n s).diagcls = s.diagcls := rfl
@[simp] theorem endExchange_txBuf (x : BitVec 3) (n : BitVec 16) : (endExchange x n s).txBuf = s.txBuf := rfl
@[simp] theorem endExchange_rxBuf (x : BitVec 3) (n : BitVec 16) : (endExchange x n s).rxBuf = s.rxBuf := rfl
@[simp] theorem endExchange_diagBuf (x : BitVec 3) (n : BitVec 16) : (endExchange x n s).diagBuf = s.diagBuf := rfl
@[simp] theorem endExchange_inProgress (x : BitVec 3) (n : BitVec 16) : (endExchange x n s).inProgress = none := rfl
@[simp] theorem endExchange_pending (x : BitVec 3) (n : BitVec 16) : (endExchange x n s).pending = none := rfl
@[simp] theorem endExchange_port (x : BitVec 3) (n : BitVec 16) : (endExchange x n s).port = s.port := rfl
@[simp] theorem endExchange_events (x : BitVec 3) (n : BitVec 16) : (endExchange x n s).events = s.events := rfl
@[simp] theorem endExchange_trace (x : BitVec 3) (n : BitVec 16) : (endExchange x n s).trace = s.trace ++ [.complete (if x = xresOk then .ok else .xchgFailed) (x.setWidth 32)] := rfl

/-! ### `recordDiag` -/

@[simp] theorem recordDiag_req (k : BitVec 3) : (recordDiag k s).req = s.req := rfl
@[simp] theorem recordDiag_rsp (k : BitVec 3) : (recordDiag k s).rsp = s.rsp := rfl
@[simp] theorem recordDiag_phase (k : BitVec 3) : (recordDiag k s).phase = s.phase := rfl
@[simp] theorem recordDiag_waitCtr (k : BitVec 3) : (recordDiag k s).waitCtr = s.waitCtr := rfl
@[simp] theorem recordDiag_xres (k : BitVec 3) : (recordDiag k s).xres = s.xres := rfl
@[simp] theorem recordDiag_xinfo (k : BitVec 3) : (recordDiag k s).xinfo = s.xinfo := rfl
@[simp] theorem recordDiag_cls (k : BitVec 3) : (recordDiag k s).cls = s.cls := rfl
@[simp] theorem recordDiag_ckout (k : BitVec 3) : (recordDiag k s).ckout = s.ckout := rfl
@[simp] theorem recordDiag_minWait (k : BitVec 3) : (recordDiag k s).minWait = s.minWait := rfl
@[simp] theorem recordDiag_maxWait (k : BitVec 3) : (recordDiag k s).maxWait = s.maxWait := rfl
@[simp] theorem recordDiag_lastw (k : BitVec 3) : (recordDiag k s).lastw = s.lastw := rfl
@[simp] theorem recordDiag_diagcnt (k : BitVec 3) : (recordDiag k s).diagcnt = satIncr s.diagcnt := rfl
@[simp] theorem recordDiag_diagcls (k : BitVec 3) : (recordDiag k s).diagcls = k := rfl
@[simp] theorem recordDiag_txBuf (k : BitVec 3) : (recordDiag k s).txBuf = s.txBuf := rfl
@[simp] theorem recordDiag_rxBuf (k : BitVec 3) : (recordDiag k s).rxBuf = s.rxBuf := rfl
@[simp] theorem recordDiag_diagBuf (k : BitVec 3) : (recordDiag k s).diagBuf = ser Config.params s.rsp := rfl
@[simp] theorem recordDiag_inProgress (k : BitVec 3) : (recordDiag k s).inProgress = s.inProgress := rfl
@[simp] theorem recordDiag_pending (k : BitVec 3) : (recordDiag k s).pending = s.pending := rfl
@[simp] theorem recordDiag_port (k : BitVec 3) : (recordDiag k s).port = s.port := rfl
@[simp] theorem recordDiag_events (k : BitVec 3) : (recordDiag k s).events = s.events := rfl
@[simp] theorem recordDiag_trace (k : BitVec 3) : (recordDiag k s).trace = s.trace ++ [.diag k (ser Config.params s.rsp)] := rfl

end Sys2Proof.Machine
end

