-- ==== Sys2Proof/Laws/Ops.lean ====
section
/-! SUPPORT. What the shared operations answer: the wire image field by field, the byte spaces, the wait drawn, and
the ways a step can go. -/

namespace Sys2Proof.Machine

open Sys2Proof

variable (P : Params) (p : Packet)

/-! ### The wire image -/

/-- The wire image as one list of bytes (R130). -/
theorem ser_toList : (ser P p).toList =
    [p.status, p.transactionId, remFirst P p.remainingPackets, remSecond P p.remainingPackets, p.protocolType,
      p.dataSize, p.commandClass, p.commandId] ++ p.args.toList ++ [p.crc, p.reserved] :=
  (Vector.toList_append ..).trans (congrArg (· ++ _) (Vector.toList_append ..))

theorem ser_getElem (i : Nat) (h : i < 90) : (ser P p)[i] =
    ([p.status, p.transactionId, remFirst P p.remainingPackets, remSecond P p.remainingPackets, p.protocolType,
      p.dataSize, p.commandClass, p.commandId] ++ p.args.toList ++ [p.crc, p.reserved])[i]'(by simp; omega) := by
  simp only [← ser_toList]
  simp

@[simp] theorem ser_status : (ser P p)[0] = p.status := by simp [ser_getElem]
@[simp] theorem ser_transactionId : (ser P p)[1] = p.transactionId := by simp [ser_getElem]
@[simp] theorem ser_remFirst : (ser P p)[2] = remFirst P p.remainingPackets := by simp [ser_getElem]
@[simp] theorem ser_remSecond : (ser P p)[3] = remSecond P p.remainingPackets := by simp [ser_getElem]
@[simp] theorem ser_protocolType : (ser P p)[4] = p.protocolType := by simp [ser_getElem]
@[simp] theorem ser_dataSize : (ser P p)[5] = p.dataSize := by simp [ser_getElem]
@[simp] theorem ser_commandClass : (ser P p)[6] = p.commandClass := by simp [ser_getElem]
@[simp] theorem ser_commandId : (ser P p)[7] = p.commandId := by simp [ser_getElem]
@[simp] theorem ser_crc : (ser P p)[88] = p.crc := by simp [ser_getElem]
@[simp] theorem ser_reserved : (ser P p)[89] = p.reserved := by simp [ser_getElem]

@[simp] theorem ser_args (i : Nat) (h : i < 80) : (ser P p)[8 + i] = p.args[i] := by
  rw [ser_getElem, List.getElem_append_left (by simp; omega), List.getElem_append_right (by simp)]
  simp

theorem remAssemble_toNat (a b : Byte) : (remAssemble P a b).toNat =
    if P.remBigEndian then a.toNat * 256 + b.toNat else b.toNat * 256 + a.toNat := by
  have h : ∀ x y : Byte, (x ++ y).toNat = x.toNat * 256 + y.toNat := by
    intro x y
    rw [BitVec.toNat_append, ← Nat.shiftLeft_add_eq_or_of_lt y.isLt, Nat.shiftLeft_eq]
  unfold remAssemble
  split <;> exact h _ _

/-- Splitting and assembling `remaining_packets` are inverse (R63, R94). -/
@[simp] theorem remAssemble_split (r : BitVec 16) : remAssemble P (remFirst P r) (remSecond P r) = r := by
  apply BitVec.eq_of_toNat_eq
  rw [remAssemble_toNat]
  unfold remFirst remSecond
  have := r.isLt
  split <;> simp [BitVec.extractLsb'_toNat, Nat.shiftRight_eq_div_pow] <;> omega

@[simp] theorem remFirst_assemble (a b : Byte) : remFirst P (remAssemble P a b) = a := by
  apply BitVec.eq_of_toNat_eq
  have h := remAssemble_toNat P a b
  unfold remFirst
  split at h <;> simp_all [BitVec.extractLsb'_toNat, Nat.shiftRight_eq_div_pow] <;> omega

@[simp] theorem remSecond_assemble (a b : Byte) : remSecond P (remAssemble P a b) = b := by
  apply BitVec.eq_of_toNat_eq
  have h := remAssemble_toNat P a b
  unfold remSecond
  split at h <;> simp_all [BitVec.extractLsb'_toNat, Nat.shiftRight_eq_div_pow] <;> omega

/-- A byte sequence is an image exactly when it has 90 bytes (R65). -/
theorem imageOfBytes_eq_some (b : List Byte) (w : Image) : imageOfBytes b = some w ↔ w.toList = b := by
  unfold imageOfBytes
  split
  · rename_i h
    constructor
    · intro hw
      simp only [Option.some.injEq] at hw
      subst hw
      rfl
    · intro hw
      subst hw
      rfl
  · rename_i h
    constructor
    · intro hw
      cases hw
    · intro hw
      exact absurd (by rw [← hw]; simp) h

theorem imageOfBytes_of_length (b : List Byte) (h : b.length = 90) : ∃ w : Image, imageOfBytes b = some w :=
  ⟨⟨b.toArray, by simpa using h⟩, by simp [imageOfBytes, h]⟩

theorem imageOfBytes_eq_none (b : List Byte) : imageOfBytes b = none ↔ b.length ≠ 90 := by
  simp [imageOfBytes]

/-! ### The checksum -/

theorem foldl_xor_init (l : List Byte) (x : Byte) : l.foldl (· ^^^ ·) x = x ^^^ l.foldl (· ^^^ ·) 0 := by
  induction l generalizing x with
  | nil => simp
  | cons a l ih =>
    rw [List.foldl_cons, ih, List.foldl_cons, ih (0 ^^^ a)]
    simp [BitVec.xor_assoc]

/-! ### The byte spaces -/

/-- Reading a byte of a space (R60). -/
theorem memRead_eq (sp : Space) (off : Nat) (s : State) (h : off < 90) :
    memRead sp off s = some ((spaceImage Config.params sp s)[off]) := by
  simp [memRead, h]

theorem memRead_none (sp : Space) (off : Nat) (s : State) (h : 90 ≤ off) : memRead sp off s = none := by
  simp [memRead, h]

/-- A byte written into the receive buffer reads back, and every other byte of every space reads as before. -/
theorem memRead_writeRx (sp : Space) (k off : Nat) (v : Byte) (s : State) (h : off < 90) :
    memRead sp k (writeRx off v s) = if sp = .rx ∧ k = off then some v else memRead sp k s := by
  cases sp <;> simp [memRead, spaceImage]
  rw [Vector.getElem?_setIfInBounds]
  by_cases hk : k = off
  · subst hk
    simp [h]
  · simp [hk, Ne.symm hk]

/-- Two states whose space reads alike at every offset hold the same bytes there: a space has one form only (log
entry 6). -/
theorem spaceImage_eq_iff (sp : Space) (s t : State) :
    spaceImage Config.params sp s = spaceImage Config.params sp t ↔ ∀ off, memRead sp off s = memRead sp off t := by
  constructor
  · intro h off
    simp [memRead, h]
  · intro h
    apply Vector.ext
    intro i hi
    simpa [memRead_eq _ _ _ hi] using h i

/-- The stamp lies outside its own domain (R161). -/
theorem cksum_ser_crc (c : Byte) : cksum (ser P (Packet.mk p.status p.transactionId p.remainingPackets p.protocolType
    p.dataSize p.commandClass p.commandId p.args c p.reserved)) = cksum (ser P p) := by
  simp [cksum, ser_toList]

/-! ### What `XINFO` records -/

/-- A transport error code is recorded whole (R42). -/
@[simp] theorem terrInfo_toNat (e : TErr) : (terrInfo e).toNat = e.toNat :=
  BitVec.toNat_setWidth_of_le Config.params.terrWidthLe

/-- A byte count is recorded up to 65535 (R11). -/
@[simp] theorem satCount_toNat (n : Nat) : (satCount n).toNat = min n 65535 := by
  unfold satCount
  rw [BitVec.toNat_ofNat, Nat.mod_eq_of_lt (by omega)]

/-! ### The wait -/

/-- The wait drawn, by cases (R199). -/
theorem drawWait_cases (lo hi pick : Micros) :
    (pick < lo ∧ drawWait lo hi pick = lo) ∨ (lo ≤ pick ∧ hi < pick ∧ drawWait lo hi pick = hi) ∨
      (lo ≤ pick ∧ pick ≤ hi ∧ drawWait lo hi pick = pick) := by
  unfold drawWait
  simp only [BitVec.lt_def, BitVec.le_def]
  split
  · exact .inl ⟨‹_›, rfl⟩
  · split
    · exact .inr (.inl ⟨by omega, ‹_›, rfl⟩)
    · exact .inr (.inr ⟨by omega, by omega, rfl⟩)

/-! ### Steps -/

/-- What the frame controller does with the outbound answer (R197, R198, R205). -/
theorem onOutRsp_cases (a : OutAnswer) (pick : Micros) (s : State) :
    (s.phase ≠ .send ∧ onOutRsp a pick s = s) ∨
    (s.phase = .send ∧ a = .written 90 ∧ onOutRsp a pick s = sendSucceeded pick s) ∨
    (s.phase = .send ∧ a ≠ .written 90 ∧ ∃ n, onOutRsp a pick s = endExchange xresSendError n s) := by
  unfold onOutRsp
  by_cases h : s.phase = .send
  · cases a with
    | written n =>
      by_cases hn : n = 90
      · exact .inr (.inl ⟨h, by rw [hn], by simp [h, hn]⟩)
      · exact .inr (.inr ⟨h, by simpa using hn, satCount n, by simp [h, hn]⟩)
    | err e => exact .inr (.inr ⟨h, by simp, terrInfo e, by simp [h]⟩)
  · exact .inl ⟨h, by simp [h]⟩

/-- What the frame controller does with a tick (R200, R205). -/
theorem onTick_cases (s : State) :
    ((s.phase ≠ .wait ∨ s.waitCtr = 0) ∧ onTick s = s) ∨
    (s.phase = .wait ∧ s.waitCtr = 1 ∧ onTick s = enterRecv { s with waitCtr := 0 }) ∨
    (s.phase = .wait ∧ 1 < s.waitCtr.toNat ∧ onTick s = { s with waitCtr := s.waitCtr - 1 }) := by
  unfold onTick
  by_cases h : s.phase = .wait
  · by_cases h0 : s.waitCtr = 0
    · exact .inl ⟨.inr h0, by simp [h0]⟩
    · by_cases h1 : s.waitCtr = 1
      · exact .inr (.inl ⟨h, h1, by simp [h, h1]⟩)
      · have hn : s.waitCtr - 1 ≠ 0 := fun e => h1 (by rw [BitVec.sub_eq_iff_eq_add] at e; simpa using e)
        refine .inr (.inr ⟨h, ?_, (if_pos ⟨h, h0⟩).trans (if_neg hn)⟩)
        have a0 : s.waitCtr.toNat ≠ 0 := fun e => h0 (BitVec.eq_of_toNat_eq (by simpa using e))
        have a1 : s.waitCtr.toNat ≠ 1 := fun e => h1 (BitVec.eq_of_toNat_eq (by simpa using e))
        omega
  · exact .inl ⟨.inl h, by simp [h]⟩

/-- What the frame controller does with the inbound answer (R202, R203, R205). -/
theorem onInRsp_cases (a : InAnswer) (s : State) :
    (s.phase ≠ .recv ∧ onInRsp a s = s) ∨
    (s.phase = .recv ∧ ∃ w : Image, a = .data w.toList ∧
      onInRsp a s = endExchange xresOk 0 { s with rxBuf := w, rsp := desImage Config.params w }) ∨
    (s.phase = .recv ∧ (∀ b, a = .data b → b.length ≠ 90) ∧
      ∃ x n, (x = xresRecvError ∨ x = xresIncompleteTransfer) ∧ onInRsp a s = endExchange x n s) := by
  unfold onInRsp
  by_cases h : s.phase = .recv
  · cases a with
    | data b =>
      cases hw : imageOfBytes b with
      | some w =>
        exact .inr (.inl ⟨h, w, by rw [(imageOfBytes_eq_some b w).1 hw], by simp [h, hw]⟩)
      | none =>
        refine .inr (.inr ⟨h, ?_, _, _, .inr rfl, by simp only [h, hw]; rfl⟩)
        intro b' hb
        cases hb
        exact (imageOfBytes_eq_none b).1 hw
    | err e => exact .inr (.inr ⟨h, by simp, _, _, .inl rfl, by simp only [h]; rfl⟩)
  · exact .inl ⟨h, by simp [h]⟩

/-- What a step can do: execute the accepted command, reject an illegal word, or consume the next event. -/
theorem step_cases {s t : State} (h : step s = .next t) :
    (∃ w i, fetch s = some w ∧ decodeWord w = .ok i ∧ exec i (takeWord s) = .next t) ∨
    (∃ w e, fetch s = some w ∧ decodeWord w = .error e ∧ t = rejectWord e (takeWord s)) ∨
    (fetch s = none ∧ t = nextEvent s) := by
  unfold step at h
  cases hf : fetch s with
  | none =>
    rw [hf] at h
    exact .inr (.inr ⟨rfl, by simpa using h.symm⟩)
  | some w =>
    rw [hf] at h
    cases hd : decodeWord w with
    | ok i => exact .inl ⟨w, i, rfl, hd, by simpa [hd] using h⟩
    | error e => exact .inr (.inl ⟨w, e, rfl, hd, by simpa [hd] using h.symm⟩)

/-- A word is accepted exactly in phase `IDLE`, and it is the first on the port (R193). -/
theorem fetch_eq_some (s : State) (w : CmdWord) :
    fetch s = some w ↔ s.phase = .idle ∧ s.port.head? = some w := by
  simp [fetch]

theorem fetch_eq_none (s : State) : fetch s = none ↔ s.phase ≠ .idle ∨ s.port = [] := by
  unfold fetch
  by_cases h : s.phase = .idle <;> simp [h]

end Sys2Proof.Machine
end

