-- ==== Sys2Proof/Laws/Exec.lean ====
section
/-! SUPPORT. The arms of `exec`, and every way a command can end. -/

namespace Sys2Proof.Machine

open Sys2Proof

section Arms

variable (s : State)

theorem exec_build (cls : Byte) (id : Byte) (size : Byte) : exec (.build cls id size) s = execBuild cls id size s := rfl
theorem exec_warg (idx : Byte) (v : Byte) : exec (.warg idx v) s = execWarg idx v s := rfl
theorem exec_setdev (v : Byte) : exec (.setdev v) s = execSetdev v s := rfl
theorem exec_settid (v : Byte) : exec (.settid v) s = execSettid v s := rfl
theorem exec_setdir (v : Byte) : exec (.setdir v) s = execSetdir v s := rfl
theorem exec_setcid (v : Byte) : exec (.setcid v) s = execSetcid v s := rfl
theorem exec_cksum (sel : Byte) : exec (.cksum sel) s = execCksum sel s := rfl
theorem exec_ser : exec .ser s = execSer s := rfl
theorem exec_wrx (off : Byte) (v : Byte) : exec (.wrx off v) s = execWrx off v s := rfl
theorem exec_des (n : Byte) : exec (.des n) s = execDes n s := rfl
theorem exec_setmin (us : Micros) : exec (.setmin us) s = execSetmin us s := rfl
theorem exec_setmax (us : Micros) : exec (.setmax us) s = execSetmax us s := rfl
theorem exec_xchg : exec .xchg s = execXchg s := rfl
theorem exec_valid : exec .valid s = execValid s := rfl
theorem exec_rdpkt (sel : Byte) (off : Byte) : exec (.rdpkt sel off) s = execRdpkt sel off s := rfl
theorem exec_rdsub (p : Byte) (f : Byte) : exec (.rdsub p f) s = execRdsub p f s := rfl
theorem exec_rdcsr (n : Byte) : exec (.rdcsr n) s = execRdcsr n s := rfl

end Arms

/-- Every way a command can end: a completion that changes nothing (a rejection or a read), or the one effect of a
command that writes. -/
theorem exec_cases {i : Instr} {s t : State} (h : exec i s = .next t) :
    (∃ c d, t = answered c d s ∧ (c = .ok → readsOnly i = true) ∧ c ≠ .badOp ∧ c ≠ .badForm ∧ c ≠ .xchgFailed) ∨
    (∃ q, writesRequest i = true ∧ t = answered .ok 0 (withRequest q s) ∧
      (q.status = s.req.status ∧ q.remainingPackets = s.req.remainingPackets ∧ q.protocolType = s.req.protocolType ∧
          q.reserved = s.req.reserved ∨
        q.status = 0 ∧ q.remainingPackets = 0 ∧ q.protocolType = 0 ∧ q.reserved = 0)) ∨
    (∃ sel k, i = .cksum sel ∧ t = answered .ok (k.setWidth 32) { s with ckout := k }) ∨
    (i = .ser ∧ t = answered .ok 0 { s with txBuf := ser Config.params s.req }) ∨
    (∃ off v, i = .wrx off v ∧ t = answered .ok 0 (writeRx off.toNat v s)) ∨
    (i = .des 90 ∧ t = answered .ok 0 (writeRsp (desImage Config.params s.rxBuf) s)) ∨
    (∃ us, i = .setmin us ∧ t = answered .ok 0 { s with minWait := us }) ∨
    (∃ us, i = .setmax us ∧ t = answered .ok 0 { s with maxWait := us }) ∨
    (i = .xchg ∧ s.req.dataSize.toNat ≤ 80 ∧ s.minWait ≤ s.maxWait ∧ t = startExchange s) ∨
    (i = .valid ∧ t = answered .ok 1 { s with cls := 1 }) ∨
    (i = .valid ∧ ∃ k : Classification, k ≠ .matched ∧ k ≠ .deviceBusy ∧
      t = answered .ok (k.code.setWidth 32) (recordDiag k.code { s with cls := k.code })) := by
  cases i with
  | build cls id size =>
    cases h
    exact .inr (.inl ⟨_, rfl, rfl, .inr ⟨rfl, rfl, rfl, rfl⟩⟩)
  | warg idx v =>
    simp only [exec, execWarg] at h
    split at h <;> cases h
    · exact .inl ⟨_, _, rfl, by simp⟩
    · exact .inr (.inl ⟨_, by simp [writesRequest]; omega, rfl, .inl ⟨rfl, rfl, rfl, rfl⟩⟩)
  | setdev v =>
    simp only [exec, execSetdev] at h
    split at h <;> cases h
    · exact .inl ⟨_, _, rfl, by simp⟩
    · exact .inr (.inl ⟨_, by simp [writesRequest]; omega, rfl, .inl ⟨rfl, rfl, rfl, rfl⟩⟩)
  | settid v =>
    simp only [exec, execSettid] at h
    split at h <;> cases h
    · exact .inl ⟨_, _, rfl, by simp⟩
    · exact .inr (.inl ⟨_, by simp [writesRequest]; omega, rfl, .inl ⟨rfl, rfl, rfl, rfl⟩⟩)
  | setdir v =>
    simp only [exec, execSetdir] at h
    split at h <;> cases h
    · exact .inl ⟨_, _, rfl, by simp⟩
    · exact .inr (.inl ⟨_, by simp [writesRequest]; omega, rfl, .inl ⟨rfl, rfl, rfl, rfl⟩⟩)
  | setcid v =>
    simp only [exec, execSetcid] at h
    split at h <;> cases h
    · exact .inl ⟨_, _, rfl, by simp⟩
    · exact .inr (.inl ⟨_, by simp [writesRequest]; omega, rfl, .inl ⟨rfl, rfl, rfl, rfl⟩⟩)
  | cksum sel =>
    simp only [exec, execCksum] at h
    split at h <;> cases h
    · exact .inl ⟨_, _, rfl, by simp⟩
    · exact .inr (.inr (.inl ⟨_, _, rfl, rfl⟩))
  | ser =>
    cases h
    exact .inr (.inr (.inr (.inl ⟨rfl, rfl⟩)))
  | wrx off v =>
    simp only [exec, execWrx] at h
    split at h <;> cases h
    · exact .inl ⟨_, _, rfl, by simp⟩
    · exact .inr (.inr (.inr (.inr (.inl ⟨_, _, rfl, rfl⟩))))
  | des n =>
    simp only [exec, execDes] at h
    split at h <;> cases h
    · exact .inl ⟨_, _, rfl, by simp⟩
    · rename_i hn
      have h90 : n = 90 := BitVec.eq_of_toNat_eq (by simpa using hn)
      subst h90
      exact .inr (.inr (.inr (.inr (.inr (.inl ⟨rfl, rfl⟩)))))
  | setmin us =>
    cases h
    exact .inr (.inr (.inr (.inr (.inr (.inr (.inl ⟨_, rfl, rfl⟩))))))
  | setmax us =>
    cases h
    exact .inr (.inr (.inr (.inr (.inr (.inr (.inr (.inl ⟨_, rfl, rfl⟩)))))))
  | xchg =>
    simp only [exec, execXchg] at h
    split at h
    · cases h
      exact .inl ⟨_, _, rfl, by simp⟩
    · split at h <;> cases h
      · exact .inl ⟨_, _, rfl, by simp⟩
      · rename_i hs hw
        exact .inr (.inr (.inr (.inr (.inr (.inr (.inr (.inr (.inl ⟨rfl, by omega, BitVec.not_lt.1 hw, rfl⟩))))))))
  | valid =>
    simp only [exec, execValid, Host.Outcome.next.injEq] at h
    by_cases hk : classify Config.params s.xres s.req s.rsp = .matched
    · rw [if_pos hk, hk] at h
      subst h
      exact .inr (.inr (.inr (.inr (.inr (.inr (.inr (.inr (.inr (.inl ⟨rfl, rfl⟩)))))))))
    · rw [if_neg hk] at h
      subst h
      refine .inr (.inr (.inr (.inr (.inr (.inr (.inr (.inr (.inr (.inr ⟨rfl, _, hk, ?_, rfl⟩)))))))))
      unfold classify
      repeat' split
      all_goals simp
  | rdpkt sel off =>
    simp only [exec, execRdpkt] at h
    split at h <;> cases h <;> exact .inl ⟨_, _, rfl, by simp [readsOnly]⟩
  | rdsub p f =>
    simp only [exec, execRdsub] at h
    split at h <;> cases h <;> exact .inl ⟨_, _, rfl, by simp [readsOnly]⟩
  | rdcsr n =>
    simp only [exec, execRdcsr] at h
    split at h <;> cases h <;> exact .inl ⟨_, _, rfl, by simp [readsOnly]⟩

end Sys2Proof.Machine
end

