-- ==== Sys2Proof/Laws/PerInstr.lean ====
section
/-! SUPPORT. A fact about every command, command by command: its word lies in its own row of the opcode table. -/

namespace Sys2Proof.Laws.EncodesItsRow

open Sys2Proof

/-- The word of the command carries the opcode of a row of R107 with the command's mnemonic, and that row's match and
mask test accepts it. -/
def Statement (i : Instr) : Prop :=
  ∃ r ∈ opcodeTable, r.mnemonic = i.mnemonic ∧ r.op = opOf (encode i) ∧ r.accepts (encode i) = true

/-- A word given by its fields lies in a row given by its fields when the masked bytes agree. -/
theorem of_fields (i : Instr) (m : String) (op a b c ka kb kc : Byte)
    (hr : ⟨m, op, cmdWord op 0 0 0, cmdWord 0xFF ka kb kc⟩ ∈ opcodeTable) (hm : m = i.mnemonic)
    (he : encode i = cmdWord op a b c) (ha : a &&& ka = 0) (hb : b &&& kb = 0) (hc : c &&& kc = 0) : Statement i := by
  refine ⟨_, hr, hm, ?_, ?_⟩
  · rw [he, opOf_cmdWord]
  · rw [he, accepts_cmdWord]
    exact ⟨BitVec.and_allOnes (x := op), ha, hb, hc⟩

theorem build (cls id size : Byte) : Statement (.build cls id size) :=
  of_fields _ "BUILD" 0x01 cls id size 0 0 0 (by decide) rfl rfl BitVec.and_zero BitVec.and_zero BitVec.and_zero

theorem warg (i v : Byte) : Statement (.warg i v) :=
  of_fields _ "WARG" 0x02 i v 0 0 0 0xFF (by decide) rfl rfl BitVec.and_zero BitVec.and_zero BitVec.zero_and

theorem setdev (v : Byte) : Statement (.setdev v) :=
  of_fields _ "SETDEV" 0x03 v 0 0 0 0xFF 0xFF (by decide) rfl rfl BitVec.and_zero BitVec.zero_and BitVec.zero_and

theorem settid (v : Byte) : Statement (.settid v) :=
  of_fields _ "SETTID" 0x04 v 0 0 0 0xFF 0xFF (by decide) rfl rfl BitVec.and_zero BitVec.zero_and BitVec.zero_and

theorem setdir (v : Byte) : Statement (.setdir v) :=
  of_fields _ "SETDIR" 0x05 v 0 0 0 0xFF 0xFF (by decide) rfl rfl BitVec.and_zero BitVec.zero_and BitVec.zero_and

theorem setcid (v : Byte) : Statement (.setcid v) :=
  of_fields _ "SETCID" 0x06 v 0 0 0 0xFF 0xFF (by decide) rfl rfl BitVec.and_zero BitVec.zero_and BitVec.zero_and

theorem cksum (sel : Byte) : Statement (.cksum sel) :=
  of_fields _ "CKSUM" 0x07 sel 0 0 0 0xFF 0xFF (by decide) rfl rfl BitVec.and_zero BitVec.zero_and BitVec.zero_and

theorem ser : Statement .ser :=
  of_fields _ "SER" 0x08 0 0 0 0xFF 0xFF 0xFF (by decide) rfl rfl BitVec.zero_and BitVec.zero_and BitVec.zero_and

theorem wrx (off v : Byte) : Statement (.wrx off v) :=
  of_fields _ "WRX" 0x09 off v 0 0 0 0xFF (by decide) rfl rfl BitVec.and_zero BitVec.and_zero BitVec.zero_and

theorem des (n : Byte) : Statement (.des n) :=
  of_fields _ "DES" 0x0A n 0 0 0 0xFF 0xFF (by decide) rfl rfl BitVec.and_zero BitVec.zero_and BitVec.zero_and

theorem setmin (us : Micros) : Statement (.setmin us) :=
  of_fields _ "SETMIN" 0x0B (us.extractLsb' 16 8) (us.extractLsb' 8 8) (us.extractLsb' 0 8) 0 0 0 (by decide) rfl (by rw [← append_imm24, imm24_bytes]; rfl) BitVec.and_zero BitVec.and_zero BitVec.and_zero

theorem setmax (us : Micros) : Statement (.setmax us) :=
  of_fields _ "SETMAX" 0x0C (us.extractLsb' 16 8) (us.extractLsb' 8 8) (us.extractLsb' 0 8) 0 0 0 (by decide) rfl (by rw [← append_imm24, imm24_bytes]; rfl) BitVec.and_zero BitVec.and_zero BitVec.and_zero

theorem xchg : Statement .xchg :=
  of_fields _ "XCHG" 0x0D 0 0 0 0xFF 0xFF 0xFF (by decide) rfl rfl BitVec.zero_and BitVec.zero_and BitVec.zero_and

theorem valid : Statement .valid :=
  of_fields _ "VALID" 0x0E 0 0 0 0xFF 0xFF 0xFF (by decide) rfl rfl BitVec.zero_and BitVec.zero_and BitVec.zero_and

theorem rdpkt (sel off : Byte) : Statement (.rdpkt sel off) :=
  of_fields _ "RDPKT" 0x0F sel off 0 0 0 0xFF (by decide) rfl rfl BitVec.and_zero BitVec.and_zero BitVec.zero_and

theorem rdsub (p f : Byte) : Statement (.rdsub p f) :=
  of_fields _ "RDSUB" 0x10 p f 0 0 0 0xFF (by decide) rfl rfl BitVec.and_zero BitVec.and_zero BitVec.zero_and

theorem rdcsr (n : Byte) : Statement (.rdcsr n) :=
  of_fields _ "RDCSR" 0x11 n 0 0 0 0xFF 0xFF (by decide) rfl rfl BitVec.and_zero BitVec.zero_and BitVec.zero_and

end Sys2Proof.Laws.EncodesItsRow
end

