-- ==== Sys2Proof/Tests/Slice0.lean ====
section
/-! SUPPORT. Tests against spec/95_test_vectors.md, the check of operand ranges, and a witness for every statement
with hypotheses. Vectors that depend on an open parameter are stated at the defaults of R7. -/

namespace Sys2Proof.Tests

open Sys2Proof Sys2Proof.Machine

/-! ### Helpers -/

/-- The reset state in a phase, with words on the port and events to come. -/
def at_ (ph : Phase) (port : List CmdWord) (events : List Event) : State :=
  { State.reset with phase := ph, port := port, events := events }

/-- The state a command leads to. -/
def after (i : Instr) (s : State) : State :=
  match exec i s with
  | .next t => t
  | _ => s

/-- The state a step leads to. -/
def stepped (s : State) : State :=
  match step s with
  | .next t => t
  | _ => s

/-- The last output. -/
def last (s : State) : Option Output := s.trace.getLast?

/-- The packet **G** of vector C2. -/
def packetG : Packet where
  status := 0x02
  transactionId := 0xBF
  remainingPackets := 0x0102
  protocolType := 0
  dataSize := 0x50
  commandClass := 0x0D
  commandId := 0x82
  args := Vector.ofFn fun i => BitVec.ofNat 8 (i.val + 1)
  crc := 0x8C
  reserved := 0

/-- The request **Q** of the vectors' conventions, not stamped. -/
def packetQ : Packet :=
  { buildPacket 0x03 0x83 0x03 with args := ((Vector.replicate 80 0).set 0 0x01).set 1 0x05 }

/-- The wire image **Qw**. -/
def imageQ : Image := ((((Image.zeros.set 1 0x1F).set 5 3).set 6 3).set 7 0x83).set 8 1 |>.set 9 5 |>.set 88 0x87

/-- The reset state with one word on the port. -/
def start (w : CmdWord) : State := at_ .idle [w] []

/-! ### Operand ranges: one term each check refuses, and one at the edge it accepts -/

theorem test_wf_warg : (Instr.warg 80 0).wellFormed = false ∧ (Instr.warg 79 0).wellFormed = true := by decide
theorem test_wf_setdev : (Instr.setdev 8).wellFormed = false ∧ (Instr.setdev 7).wellFormed = true := by decide
theorem test_wf_settid : (Instr.settid 32).wellFormed = false ∧ (Instr.settid 31).wellFormed = true := by decide
theorem test_wf_setdir : (Instr.setdir 2).wellFormed = false ∧ (Instr.setdir 1).wellFormed = true := by decide
theorem test_wf_setcid : (Instr.setcid 128).wellFormed = false ∧ (Instr.setcid 127).wellFormed = true := by decide
theorem test_wf_cksum : (Instr.cksum 4).wellFormed = false ∧ (Instr.cksum 3).wellFormed = true := by decide
theorem test_wf_wrx : (Instr.wrx 90 0).wellFormed = false ∧ (Instr.wrx 89 0).wellFormed = true := by decide
theorem test_wf_rdpkt_space : (Instr.rdpkt 5 0).wellFormed = false ∧ (Instr.rdpkt 4 89).wellFormed = true := by decide
theorem test_wf_rdpkt_offset : (Instr.rdpkt 0 90).wellFormed = false := by decide
theorem test_wf_rdsub_packet : (Instr.rdsub 2 0).wellFormed = false ∧ (Instr.rdsub 1 3).wellFormed = true := by decide
theorem test_wf_rdsub_field : (Instr.rdsub 0 4).wellFormed = false := by decide
theorem test_wf_rdcsr : (Instr.rdcsr 9).wellFormed = false ∧ (Instr.rdcsr 8).wellFormed = true := by decide

/-! ### Decoding: every command's word, written out from R101 to R107 and the vectors (bits 31:24 the opcode, then
`a`, `b`, `c`) -/

theorem test_decode_build : decodeWord 0x01038303 = .ok (.build 0x03 0x83 0x03) := by decide
theorem test_decode_warg : decodeWord 0x024FAA00 = .ok (.warg 79 0xAA) := by decide
theorem test_decode_setdev : decodeWord 0x03050000 = .ok (.setdev 5) := by decide
theorem test_decode_settid : decodeWord 0x041F0000 = .ok (.settid 31) := by decide
theorem test_decode_setdir : decodeWord 0x05010000 = .ok (.setdir 1) := by decide
theorem test_decode_setcid : decodeWord 0x06050000 = .ok (.setcid 5) := by decide
theorem test_decode_cksum : decodeWord 0x07010000 = .ok (.cksum 1) := by decide
theorem test_decode_ser : decodeWord 0x08000000 = .ok .ser := by decide
theorem test_decode_wrx : decodeWord 0x0901BF00 = .ok (.wrx 1 0xBF) := by decide
theorem test_decode_des : decodeWord 0x0A5A0000 = .ok (.des 90) := by decide
theorem test_decode_setmin : decodeWord 0x0B000258 = .ok (.setmin 600) := by decide
theorem test_decode_setmax : decodeWord 0x0C000320 = .ok (.setmax 800) := by decide
theorem test_decode_xchg : decodeWord 0x0D000000 = .ok .xchg := by decide
theorem test_decode_valid : decodeWord 0x0E000000 = .ok .valid := by decide
theorem test_decode_rdpkt : decodeWord 0x0F010A00 = .ok (.rdpkt 1 10) := by decide
theorem test_decode_rdsub : decodeWord 0x10010300 = .ok (.rdsub 1 3) := by decide
theorem test_decode_rdcsr : decodeWord 0x11060000 = .ok (.rdcsr 6) := by decide

/-- The illegal opcodes of section 2.6 of the vectors. -/
theorem test_decode_badOp : decodeWord 0x00000000 = .error .badOp ∧ decodeWord 0x12000000 = .error .badOp ∧
    decodeWord 0xFFFFFFFF = .error .badOp := by decide

/-- The ill-formed words of the vectors, one for each format with an unused byte. -/
theorem test_decode_badForm : decodeWord 0x08000001 = .error .badForm ∧ decodeWord 0x0D000100 = .error .badForm ∧
    decodeWord 0x0E010000 = .error .badForm ∧ decodeWord 0x11000001 = .error .badForm ∧
    decodeWord 0x02000101 = .error .badForm := by decide

theorem test_decodeTableWord : decodeTableWord 32 0x0BFFFFFF = some (.setmin 0xFFFFFF) ∧
    decodeTableWord 32 0 = none := by decide

/-- A word placed for fetching is the next one executed: vector X4's `SETMIN`. -/
theorem test_withFetchWord : (stepped (State.reset.withFetchWord 32 0x0BFFFFFF)).minWait = 16777215 := by decide

/-! ### The function layer -/

/-- C2: `Ser` of **G** in both byte orders. -/
theorem test_ser_G : ((ser ({} : Params) packetG).toList.take 10 =
    [0x02, 0xBF, 0x01, 0x02, 0x00, 0x50, 0x0D, 0x82, 0x01, 0x02]) ∧
    (ser ({ remBigEndian := false } : Params) packetG).toList.take 4 = [0x02, 0xBF, 0x02, 0x01] := by decide

/-- C4: the end of the record. -/
theorem test_ser_end : (ser ({} : Params)
    { Packet.zero with args := (Vector.replicate 80 0).set 79 0xA5, crc := 0x5A, reserved := 0xC3 }).toList.drop 86 =
    [0x00, 0xA5, 0x5A, 0xC3] := by decide

/-- C2: `Des` of the big-endian image, under each byte order. -/
theorem test_des_G :
    (desImage ({} : Params) (ser ({} : Params) packetG)).remainingPackets = 0x0102 ∧
    (desImage ({ remBigEndian := false } : Params) (ser ({} : Params) packetG)).remainingPackets = 0x0201 ∧
    (desImage ({} : Params) (ser ({} : Params) packetG)).args[79] = 0x50 := by decide

/-- C6: sub-fields in both bit orders. -/
theorem test_subfields_msb : unpackTid ({} : Params) 0xBF = (5, 0x1F) ∧ unpackCid ({} : Params) 0x83 = (1, 3) ∧
    packTid ({} : Params) 5 0x1F = 0xBF ∧ packCid ({} : Params) 1 3 = 0x83 := by decide

theorem test_subfields_lsb : unpackTid ({ subfieldMsbFirst := false } : Params) 0xBF = (7, 0x17) ∧
    unpackCid ({ subfieldMsbFirst := false } : Params) 0x83 = (1, 0x41) ∧
    packTid ({ subfieldMsbFirst := false } : Params) 5 0x1F = 0xFD ∧
    packCid ({ subfieldMsbFirst := false } : Params) 1 3 = 0x07 := by decide

/-- K2, K6: the checksums of **Q** and of **G**. -/
theorem test_cksum_QG : cksum (ser ({} : Params) packetQ) = 0x87 ∧ cksum (ser ({} : Params) packetG) = 0x8C := by decide

/-- K9: the two ends of the domain are inside, their neighbours outside. -/
theorem test_cksum_domain : cksum (Image.zeros.set 2 1) = 1 ∧ cksum (Image.zeros.set 87 0x80) = 0x80 ∧
    cksum (Image.zeros.set 1 0xFF) = 0 ∧ cksum (Image.zeros.set 88 0xFF) = 0 := by decide

/-- The stamped request is **Qw**. -/
theorem test_stamp_Q : ser ({} : Params) (stamp ({} : Params) packetQ) = imageQ := by decide

/-- V2, V7, V9, V11: mismatch by a field, `BUSY` matched, the whole byte compared, mismatch before status. -/
theorem test_classify :
    classify ({} : Params) 1 packetQ { packetQ with commandClass := 4, status := 2 } = .fieldMismatch ∧
    classify ({} : Params) 1 packetQ { packetQ with status := 1 } = .matched ∧
    classify ({} : Params) 1 packetQ { packetQ with commandId := 3, status := 2 } = .fieldMismatch ∧
    classify ({} : Params) 1 packetQ { packetQ with commandClass := 4, status := 3 } = .fieldMismatch := by decide

/-- V3, V5, V6, V13: the failure codes of the device, and no completed round trip. -/
theorem test_classify_failures :
    classify ({} : Params) 1 packetQ { packetQ with status := 3 } = .commandFailed ∧
    classify ({} : Params) 1 packetQ { packetQ with status := 5 } = .commandNotSupported ∧
    classify ({} : Params) 1 packetQ { packetQ with status := 4 } = .commandTimedOut ∧
    classify ({} : Params) 2 packetQ Packet.zero = .transferError := by decide

/-! ### One step of each command -/

/-- B1: `BUILD`. -/
theorem test_build : (after (.build 3 0x83 3) State.reset).req = buildPacket 3 0x83 3 ∧
    last (after (.build 3 0x83 3) State.reset) = some (.complete .ok 0) := by decide

/-- B5: `WARG 79`, `WARG 80`. -/
theorem test_warg : (after (.warg 79 0xAA) State.reset).req.args[79] = 0xAA ∧
    last (after (.warg 80 0xAA) State.reset) = some (.complete .badIndex 0) := by decide

/-- B6: the widths of the sub-fields. -/
theorem test_fieldWidth : last (after (.setdev 8) State.reset) = some (.complete .fieldWidth 0) ∧
    last (after (.settid 32) State.reset) = some (.complete .fieldWidth 0) ∧
    last (after (.setdir 2) State.reset) = some (.complete .fieldWidth 0) ∧
    last (after (.setcid 128) State.reset) = some (.complete .fieldWidth 0) := by decide

/-- C8: `CKSUM TX` of a buffer that holds **Qw**. -/
theorem test_cksum_tx : last (after (.cksum 2) { State.reset with txBuf := imageQ }) = some (.complete .ok 0x87) ∧
    (after (.cksum 2) { State.reset with txBuf := imageQ }).ckout = 0x87 := by decide

/-- `CKSUM 4`. -/
theorem test_cksum_selector : last (after (.cksum 4) State.reset) = some (.complete .badIndex 0) := by decide

/-- `SER` completes and leaves the phase. -/
theorem test_ser : last (after .ser State.reset) = some (.complete .ok 0) := by decide

/-- P6: `WRX 1, 0xBF`, and section 2.6's `WRX 90, 0`. -/
theorem test_wrx : (after (.wrx 1 0xBF) State.reset).rxBuf[1] = 0xBF ∧
    last (after (.wrx 90 0) State.reset) = some (.complete .badIndex 0) := by decide

/-- C5: `DES 42` and `DES 91` report the length. -/
theorem test_des_length : last (after (.des 42) State.reset) = some (.complete .malformedResponse 42) ∧
    last (after (.des 91) State.reset) = some (.complete .malformedResponse 91) := by decide

/-- C5: `DES 90` invalidates. -/
theorem test_des_90 : (after (.des 90) { State.reset with xres := 4, xinfo := 42, cls := 7 }).xres = 0 ∧
    last (after (.des 90) State.reset) = some (.complete .ok 0) := by decide

theorem test_setmin_setmax : (after (.setmin 600) State.reset).minWait = 600 ∧
    (after (.setmax 800) State.reset).maxWait = 800 := by decide

/-- X5, X4: the size check comes before the wait check. -/
theorem test_xchg_checks :
    last (after .xchg { State.reset with req := buildPacket 3 0x83 0x51, minWait := 800, maxWait := 600 }) =
      some (.complete .dataSizeOverflow 0x51) ∧
    last (after .xchg { State.reset with minWait := 800, maxWait := 600 }) = some (.complete .waitRange 0) := by decide

/-- X10: `XCHG` straight after reset is accepted. -/
theorem test_xchg_start : (after .xchg State.reset).phase = .send ∧ completions (after .xchg State.reset) = 0 := by
  decide

/-- V12: no completed round trip, so `VALID` answers `TransferError` and records it. -/
theorem test_valid : last (after .valid State.reset) = some (.complete .ok 7) ∧
    (after .valid State.reset).diagcnt = 1 ∧ (after .valid State.reset).diagcls = 7 := by decide

/-- C7: `RDPKT TX, 1` before any `SER`; `RDPKT 5, 0`. -/
theorem test_rdpkt : last (after (.rdpkt 2 1) State.reset) = some (.complete .ok 0) ∧
    last (after (.rdpkt 5 0) State.reset) = some (.complete .badIndex 0) := by decide

/-- P6, steps 93 to 96: the sub-fields of **G**. -/
theorem test_rdsub : (subfieldOfSel ({} : Params) 0 packetG, subfieldOfSel ({} : Params) 1 packetG,
    subfieldOfSel ({} : Params) 2 packetG, subfieldOfSel ({} : Params) 3 packetG) =
    (some 5, some 0x1F, some 1, some 2) := by decide

/-- Section 2.6: `RDSUB 2, 0` and `RDSUB REQ, 4`. -/
theorem test_rdsub_selectors : last (after (.rdsub 2 0) State.reset) = some (.complete .badIndex 0) ∧
    last (after (.rdsub 0 4) State.reset) = some (.complete .badIndex 0) := by decide

/-- Section 2.6: `RDCSR MIN_WAIT` after `SETMIN 600`, and `RDCSR 9`. -/
theorem test_rdcsr : last (after (.rdcsr 4) { State.reset with minWait := 600 }) = some (.complete .ok 600) ∧
    last (after (.rdcsr 9) State.reset) = some (.complete .badIndex 0) := by decide

/-! ### One step of the frame controller -/

/-- X2: the fifth tick asks for the answer. -/
theorem test_tick : (stepped { at_ .wait [] [.tick] with waitCtr := 1 }).phase = .recv ∧
    (stepped { at_ .wait [] [.tick] with waitCtr := 5 }).waitCtr = 4 := by decide

/-- X7: a short outbound transfer. -/
theorem test_outRsp_short : (stepped (at_ .send [] [.outRsp (.written 64) 0])).xinfo = 64 ∧
    last (stepped (at_ .send [] [.outRsp (.written 64) 0])) = some (.complete .xchgFailed 2) := by decide

/-- X3: 599 is drawn by nothing, 600 and 800 are. -/
theorem test_drawWait : drawWait 600 800 599 = 600 ∧ drawWait 600 800 800 = 800 ∧ drawWait 600 800 801 = 800 := by
  decide

/-- X6, S5: 42 bytes back. -/
theorem test_inRsp_short : (stepped (at_ .recv [] [.inRsp (.data (List.replicate 42 0xAA))])).xinfo = 42 ∧
    last (stepped (at_ .recv [] [.inRsp (.data (List.replicate 42 0xAA))])) = some (.complete .xchgFailed 4) := by
  decide

/-- X7: the default width of an error code. -/
theorem test_terrWidth : ({} : Params).terrWidth = 16 := rfl

/-- X6: a count above 65535 saturates. -/
theorem test_satCount : satCount 70000 = 65535 := by decide

/-- X9: a word presented in `WAIT` is held. -/
theorem test_held : (stepped (at_ .wait [] [.present 0x11000000])).port = [0x11000000] ∧
    (stepped (at_ .wait [] [.present 0x11000000])).trace = [] := by decide

/-! ### Witnesses: for each statement with hypotheses, a state and operands that meet them, clause by clause -/

theorem witness_EncodeOfDecodedIsTheWord : decodeWord 0x01038303 = .ok (.build 0x03 0x83 0x03) := by decide

theorem witness_IllegalWords_badOp : (start 0x00000000).phase = .idle ∧ (start 0x00000000).port = [0x00000000] ∧
    (0x00000000 : CmdWord).extractLsb' 24 8 = 0 ∧ (start 0x12000000).port = [0x12000000] ∧
    0x12 ≤ ((0x12000000 : CmdWord).extractLsb' 24 8).toNat ∧
    0x12 ≤ ((0xFFFFFFFF : CmdWord).extractLsb' 24 8).toNat := by decide

theorem witness_IllegalWords_legalOp :
    1 ≤ ((0x01000000 : CmdWord).extractLsb' 24 8).toNat ∧ ((0x01000000 : CmdWord).extractLsb' 24 8).toNat ≤ 0x11 ∧
    1 ≤ ((0x11FFFFFF : CmdWord).extractLsb' 24 8).toNat ∧ ((0x11FFFFFF : CmdWord).extractLsb' 24 8).toNat ≤ 0x11 := by
  decide

theorem witness_IllegalWords_badForm : (start 0x08000001).phase = .idle ∧ (start 0x08000001).port = [0x08000001] ∧
    (0x08000001 : CmdWord) = (0x08 : Byte) ++ (0x00 : Byte) ++ (0x00 : Byte) ++ (0x01 : Byte) ∧
    (0x11FF0100 : CmdWord) = (0x11 : Byte) ++ (0xFF : Byte) ++ (0x01 : Byte) ++ (0x00 : Byte) ∧
    (0x02FFFF01 : CmdWord) = (0x02 : Byte) ++ (0xFF : Byte) ++ (0xFF : Byte) ++ (0x01 : Byte) ∧
    (0x08 : Byte) ∈ [(0x08 : Byte), 0x0D, 0x0E] ∧
    (0x11 : Byte) ∈ [(0x03 : Byte), 0x04, 0x05, 0x06, 0x07, 0x0A, 0x11] ∧
    (0x02 : Byte) ∈ [(0x02 : Byte), 0x09, 0x0F, 0x10] := by decide

theorem witness_StepRunsTheDecodedCommand : (start 0x0B000258).phase = .idle ∧ (start 0x0B000258).port = [0x0B000258] ∧
    decodeWord 0x0B000258 = .ok (.setmin 600) := by decide

theorem witness_CommandsAreHeldWhileBusy :
    (at_ .wait [] [.present 0x11000000]).phase ≠ .idle ∧
    (at_ .wait [] [.present 0x11000000]).events = [.present 0x11000000] ∧
    Event.present 0x11000000 ≠ .reset ∧ Event.tick ≠ .reset := by decide

theorem witness_NothingStopsTheBlock : (at_ .send [0x0E000000] []).events = [] ∧
    (at_ .send [0x0E000000] []).phase ≠ .idle ∧ (at_ .idle [] []).events = [] ∧ (at_ .idle [] []).port = [] := by decide

theorem witness_SerPlacesEveryField : ({} : Params).remBigEndian = true ∧
    ({ remBigEndian := false } : Params).remBigEndian = false := by decide

theorem witness_DesTestsOnlyTheLength : (List.replicate 89 (0 : Byte)).length ≠ 90 ∧
    (List.replicate 91 (0 : Byte)).length ≠ 90 ∧ (List.replicate 90 (0xFF : Byte)).length = 90 := by decide

theorem witness_DesOfSerIsThePacket : des ({} : Params) (ser ({} : Params) packetG).toList = some packetG := by decide

theorem witness_SerIsABijection : (List.replicate 90 (0xFF : Byte)).length = 90 := by decide

theorem witness_WrxWritesOneReceiveByte : 90 ≤ (90 : Byte).toNat ∧ 90 ≤ (255 : Byte).toNat ∧ (89 : Byte).toNat < 90 := by
  decide

theorem witness_DesLoadsTheResponse : (89 : Byte).toNat ≠ 90 ∧ (91 : Byte).toNat ≠ 90 ∧ (90 : Byte).toNat = 90 := by
  decide

theorem witness_RdpktReadsAnyByteSpace : 4 < (5 : Byte).toNat ∧ 90 ≤ (90 : Byte).toNat ∧ (4 : Byte).toNat ≤ 4 ∧
    (89 : Byte).toNat < 90 := by decide

theorem witness_RdsubReadsAnySubfield : 1 < (2 : Byte).toNat ∧ 3 < (4 : Byte).toNat ∧ (1 : Byte).toNat ≤ 1 ∧
    (3 : Byte).toNat ≤ 3 := by decide

theorem witness_CksumDependsOnTheDomainOnly : ∀ (k : Nat) (h : k < 90), 2 ≤ k → k ≤ 87 →
    imageQ[k] = ((imageQ.set 1 0x77).set 88 0x66)[k] := by
  intro k h h2 h87
  rw [Vector.getElem_set_ne, Vector.getElem_set_ne] <;> omega

/-- Both ends of the domain. -/
theorem witness_CksumChanges_one :
    (Image.zeros[2] ≠ (Image.zeros.set 2 1)[2] ∧
      ∀ (j : Nat) (hj : j < 90), j ≠ 2 → Image.zeros[j] = (Image.zeros.set 2 1)[j]) ∧
    (Image.zeros[87] ≠ (Image.zeros.set 87 1)[87] ∧
      ∀ (j : Nat) (hj : j < 90), j ≠ 87 → Image.zeros[j] = (Image.zeros.set 87 1)[j]) := by
  refine ⟨⟨by decide, ?_⟩, ⟨by decide, ?_⟩⟩ <;> intro j hj hne <;> rw [Vector.getElem_set_ne] <;> omega

/-- K8: **Qw** with two bytes swapped. -/
theorem witness_CksumChanges_permuted : ((imageQ.toList.drop 2).take 86).Perm
    (((((imageQ.set 8 5).set 9 1).toList).drop 2).take 86) := by decide

theorem witness_CksumCommandReportsTheChecksum : 3 < (4 : Byte).toNat ∧ (3 : Byte).toNat ≤ 3 := by decide

theorem witness_WargWritesOneArgument : 80 ≤ (80 : Byte).toNat ∧ (79 : Byte).toNat < 80 := by decide

theorem witness_TransactionIdWriters : 7 < (8 : Byte).toNat ∧ (7 : Byte).toNat ≤ 7 ∧ 31 < (32 : Byte).toNat ∧
    (31 : Byte).toNat ≤ 31 := by decide

theorem witness_CommandIdWriters : 1 < (2 : Byte).toNat ∧ (1 : Byte).toNat ≤ 1 ∧ 127 < (128 : Byte).toNat ∧
    (127 : Byte).toNat ≤ 127 := by decide

theorem witness_RdcsrReadsEveryRegister : 8 < (9 : Byte).toNat ∧ (8 : Byte).toNat ≤ 8 := by decide

/-- The six cases of the decision order, at the default status codes. -/
theorem witness_ClassifyTakesTheFirstMatch : xresIncompleteTransfer ≠ 1 ∧
    ({ packetQ with commandClass := 4 } : Packet).commandClass ≠ packetQ.commandClass ∧
    ({ packetQ with status := 3 } : Packet).status = ({} : Params).statusFailure ∧
    ({ packetQ with status := 5 } : Packet).status = ({} : Params).statusNotSupported ∧
    ({ packetQ with status := 4 } : Packet).status = ({} : Params).statusTimeout ∧
    packetQ.status ≠ ({} : Params).statusFailure ∧ packetQ.status ≠ ({} : Params).statusNotSupported ∧
    packetQ.status ≠ ({} : Params).statusTimeout := by decide

/-- V14: the fields that are not looked at differ. -/
theorem witness_ClassifyIgnoresTheOtherFields :
    ({ packetQ with transactionId := 0, dataSize := 0xFF, crc := 1, reserved := 0x77 } : Packet).remainingPackets =
      packetQ.remainingPackets ∧
    ({ packetQ with transactionId := 0, dataSize := 0xFF, crc := 1, reserved := 0x77 } : Packet).commandId =
      packetQ.commandId ∧
    ({ packetQ with transactionId := 0, dataSize := 0xFF, crc := 1, reserved := 0x77 } : Packet) ≠ packetQ := by decide

/-- V15: the zero response to the zero request is `Matched`, for every choice of the status codes. -/
theorem witness_Valid_matched : classify Config.params 1 Packet.zero Packet.zero = .matched := by
  have h := Config.params.statusNonzero
  simp only [List.mem_cons, not_or] at h
  have hf : (0#8 = Config.params.statusFailure) = False := eq_false h.2.2.1
  have ht : (0#8 = Config.params.statusTimeout) = False := eq_false h.2.2.2.1
  have hn : (0#8 = Config.params.statusNotSupported) = False := eq_false h.2.2.2.2.1
  simp [classify, xresOk, Packet.zero, hf, ht, hn]

theorem witness_Valid_other : classify Config.params State.reset.xres State.reset.req State.reset.rsp ≠ .matched := by
  have h : classify Config.params State.reset.xres State.reset.req State.reset.rsp = .transferError := rfl
  rw [h]
  decide

/-- V2, for every choice of the status codes. -/
theorem witness_Valid_mismatch :
    classify Config.params 1 packetQ { packetQ with commandClass := 4 } = .fieldMismatch := rfl

/-- V3, at whatever code `STATUS_FAILURE` has. -/
theorem witness_Valid_failed :
    classify Config.params 1 packetQ { packetQ with status := Config.params.statusFailure } = .commandFailed := by
  simp [classify, xresOk]

theorem witness_ResetValues_busy : (at_ .recv [] []).busy = true ∧ (at_ .idle [] []).busy = false := by decide

theorem witness_WritingTheRequestVoidsTheVerdict : writesRequest (.warg 79 1) = true ∧
    writesRequest (.setdev 7) = true ∧ writesRequest (.settid 31) = true ∧ writesRequest (.setdir 1) = true ∧
    writesRequest (.setcid 127) = true ∧ writesRequest (.build 0 0 0) = true := by decide

theorem witness_RejectedCommandChangesNothing : (start 0x02500000).phase = .idle ∧
    (start 0x02500000).port = [0x02500000] ∧ step (start 0x02500000) = .next (stepped (start 0x02500000)) ∧
    (stepped (start 0x02500000)).trace = [] ++ [.complete .badIndex 0] ∧ CompletionCode.badIndex ≠ .ok :=
  ⟨rfl, rfl, rfl, by decide, by decide⟩

theorem witness_OperandRangesDecideTheCode : (Instr.setcid 127).wellFormed = true ∧ Instr.setcid 127 ≠ .xchg ∧
    (∀ n, Instr.setcid 127 ≠ .des n) ∧ (Instr.setcid 128).wellFormed = false :=
  ⟨by decide, by decide, nofun, by decide⟩

theorem witness_ReadsHaveNoSideEffect : readsOnly (.rdpkt 0 89) = true ∧ readsOnly (.rdpkt 5 90) = true ∧
    readsOnly (.rdsub 1 3) = true ∧ readsOnly (.rdcsr 8) = true := by decide

theorem witness_WargChangesOneWireByte : (0 : Byte).toNat < 80 ∧ (79 : Byte).toNat < 80 := by decide

theorem witness_SubfieldWritersChangeOneWireByte :
    ((Instr.setdev 7 = .setdev 7 ∨ Instr.setdev 7 = .settid 7) ∧ 1 = 1) ∧
    ((Instr.setcid 127 = .setdir 127 ∨ Instr.setcid 127 = .setcid 127) ∧ 7 = 7) := by decide

theorem witness_BufferWritersLeaveTheRest : (90 : Byte).toNat = 90 ∧ (89 : Byte).toNat < 90 ∧
    (buildPacket 3 0x83 80).dataSize.toNat ≤ 80 ∧ State.reset.minWait ≤ State.reset.maxWait := by decide

theorem witness_OtherCommandsStoreNothing : readsOnly (.rdcsr 0) = true ∧ (∃ sel, Instr.cksum 3 = .cksum sel) ∧
    (∃ us, Instr.setmin 1 = .setmin us) ∧ (∃ us, Instr.setmax 1 = .setmax us) :=
  ⟨rfl, ⟨_, rfl⟩, ⟨_, rfl⟩, ⟨_, rfl⟩⟩

theorem witness_XchgChecksSizeThenInterval : 80 < (buildPacket 3 0x83 81).dataSize.toNat ∧
    (buildPacket 3 0x83 80).dataSize.toNat ≤ 80 ∧ (600 : Micros) < 601 := by decide

theorem witness_XchgStartsTheExchange : (buildPacket 3 0x83 80).dataSize.toNat ≤ 80 ∧ (600 : Micros) ≤ 600 := by decide

/-- A state in `SEND`, `WAIT` or `RECV` with the interval 600 to 800 programmed. -/
def busy (ph : Phase) (e : Event) : State := { at_ ph [] [e] with minWait := 600, maxWait := 800 }

theorem witness_SendSuccess_wait : (busy .send (.outRsp (.written 90) 800)).phase = .send ∧
    (600 : Micros) ≤ 800 ∧ (busy .send (.outRsp (.written 90) 800)).events = [.outRsp (.written 90) 800] ∧
    (600 : Micros) ≠ 0 := by decide

theorem witness_SendSuccess_noWait : (at_ .send [] [.outRsp (.written 90) 0]).phase = .send ∧
    (at_ .send [] [.outRsp (.written 90) 0]).minWait ≤ (at_ .send [] [.outRsp (.written 90) 0]).maxWait ∧
    (at_ .send [] [.outRsp (.written 90) 0]).events = [.outRsp (.written 90) 0] := by decide

theorem witness_SendFailureEndsTheExchange : (at_ .send [] [.outRsp (.written 89) 0]).phase = .send ∧
    (at_ .send [] [.outRsp (.written 89) 0]).events = [.outRsp (.written 89) 0] ∧
    OutAnswer.written 89 ≠ .written 90 ∧ OutAnswer.written 91 ≠ .written 90 ∧ OutAnswer.err 0xFFED ≠ .written 90 := by
  decide

theorem witness_TickCountsTheWaitDown : (at_ .wait [] [.tick]).phase = .wait ∧ (at_ .wait [] [.tick]).events = [.tick] ∧
    1 < ({ at_ .wait [] [.tick] with waitCtr := 2 } : State).waitCtr.toNat ∧
    ({ at_ .wait [] [.tick] with waitCtr := 1 } : State).waitCtr = 1 := by decide

theorem witness_NinetyBytesEndTheExchangeWell :
    (at_ .recv [] [.inRsp (.data (List.replicate 90 0xFF))]).phase = .recv ∧
    (at_ .recv [] [.inRsp (.data (List.replicate 90 0xFF))]).events = [.inRsp (.data (List.replicate 90 0xFF))] ∧
    (List.replicate 90 (0xFF : Byte)).length = 90 := by decide

theorem witness_InboundFailureKeepsNoByte :
    (at_ .recv [] [.inRsp (.err 0xFF92)]).phase = .recv ∧
    (at_ .recv [] [.inRsp (.err 0xFF92)]).events = [.inRsp (.err 0xFF92)] ∧
    (∀ b, InAnswer.err 0xFF92 = .data b → b.length ≠ 90) ∧
    (∀ b, InAnswer.data (List.replicate 89 0xAA) = .data b → b.length ≠ 90) := by
  refine ⟨rfl, rfl, nofun, fun b h => ?_⟩
  cases h
  decide

theorem witness_UnawaitedEventsAreIgnored :
    (at_ .wait [] [.outRsp (.written 90) 5]).phase ≠ .idle ∧ (at_ .wait [] [.outRsp (.written 90) 5]).phase ≠ .send ∧
    (at_ .idle [] [.inRsp (.err 0)]).port = [] ∧ (at_ .idle [] [.inRsp (.err 0)]).phase ≠ .recv ∧
    (at_ .send [] [.tick]).phase ≠ .idle ∧ (at_ .send [] [.tick]).phase ≠ .wait := by decide

/-- A step of each kind the phase machine has from `IDLE`. -/
theorem witness_PhaseFollowsTheMachine : step (start 0x0D000000) = .next (stepped (start 0x0D000000)) ∧
    (stepped (start 0x0D000000)).phase = .send := ⟨rfl, by decide⟩

theorem witness_SettleWaitTakesExactlyItsTicks :
    ({ at_ .wait [] (List.replicate 5 .tick ++ [.inRsp (.err 0)]) with waitCtr := 5 } : State).phase = .wait ∧
    ({ at_ .wait [] (List.replicate 5 .tick ++ [.inRsp (.err 0)]) with waitCtr := 5 } : State).waitCtr.toNat = 5 ∧
    ({ at_ .wait [] [.tick] with waitCtr := 1 } : State).waitCtr.toNat = 1 ∧
    [Event.tick] = List.replicate 1 .tick ++ [] := by decide

/-- A state before a whole round trip, with a wait of `pick`. -/
def beforeTrip (pick : Micros) (a : InAnswer) : State :=
  { at_ .idle [0x0D000000, 0x0E000000]
      (.outRsp (.written 90) pick :: (List.replicate pick.toNat .tick ++ .inRsp a :: [])) with
    req := packetQ
    maxWait := 5 }

theorem witness_RoundTripCompletesOnce : (beforeTrip 5 (.err 7)).phase = .idle ∧
    (beforeTrip 5 (.err 7)).port = 0x0D000000 :: [0x0E000000] ∧ (beforeTrip 5 (.err 7)).req.dataSize.toNat ≤ 80 ∧
    (beforeTrip 5 (.err 7)).minWait ≤ 5 ∧ 5 ≤ (beforeTrip 5 (.err 7)).maxWait ∧
    (beforeTrip 5 (.err 7)).events =
      .outRsp (.written 90) 5 :: (List.replicate (5 : Micros).toNat .tick ++ .inRsp (.err 7) :: []) ∧
    (beforeTrip 0 (.data [])).minWait ≤ 0 := ⟨rfl, rfl, by decide, by decide, by decide, rfl, by decide⟩

theorem witness_ResetEventAbandonsEverything : (at_ .wait [0x0E000000] [.reset]).events = [.reset] ∧
    (at_ .wait [0x0E000000] [.reset]).phase ≠ .idle ∧ (at_ .idle [] [.reset]).port = [] ∧
    (at_ .idle [0x0E000000] [.reset]).events = [.reset] ∧ (at_ .idle [0x0E000000] [.reset]).phase = .idle ∧
    (at_ .idle [0x0E000000] [.reset]).port = [0x0E000000] := by decide

theorem witness_ResponseWriters :
    step { start 0x0D000000 with rsp := packetG } = .next (stepped { start 0x0D000000 with rsp := packetG }) ∧
    (stepped { start 0x0D000000 with rsp := packetG }).rsp ≠ packetG := ⟨rfl, by decide⟩

theorem witness_DiagnosticCountOnlyGrows : step (start 0x0E000000) = .next (stepped (start 0x0E000000)) ∧
    (∀ rest, (start 0x0E000000).events ≠ .reset :: rest) ∧
    (stepped (start 0x0E000000)).diagcnt ≠ (start 0x0E000000).diagcnt := ⟨rfl, nofun, by decide⟩

/-- The settle wait of a request just sent, 700 microseconds of 600 to 800 still to run. -/
def waiting : State :=
  { busy .wait .tick with
    req := stamp Config.params packetQ
    txBuf := ser Config.params (stamp Config.params packetQ)
    waitCtr := 700
    lastw := 700
    inProgress := some .xchg
    trace := [.transfer (.outReq Config.params.outQuad (ser Config.params (stamp Config.params packetQ)))] }

theorem witness_StepKeepsTheBlockInvariant : Inv waiting ∧ step waiting = .next (stepped waiting) where
  left :=
    { xresNamed := by decide
      clsNotBusy := by decide
      diagclsNamed := by decide
      diagNone := by decide
      reqConstant := ⟨rfl, rfl, rfl, rfl⟩
      waitZero := by decide
      waitRange := by decide
      lastwRange := by decide
      accepted := by decide
      cleared := by decide
      frameSent := fun _ => ⟨rfl, (cksum_ser_crc Config.params packetQ _).symm⟩
      failedZero := by decide
      inProgressXchg := by decide
      pendingMatches := by decide }
  right := rfl

theorem witness_StepKeepsTransfersInOrder : TransfersInOrder waiting ∧ step waiting = .next (stepped waiting) :=
  ⟨⟨rfl, fun _ => rfl⟩, rfl⟩

end Sys2Proof.Tests
end

