-- ==== Sys2Proof/Proofs/ResetState.lean ====
section
/-! PROOF. The state after reset and the level `busy` (10_state.md R52, R54). -/

namespace Sys2Proof.Machine

open Sys2Proof

@[simp] theorem remFirst_zero (P : Params) : remFirst P 0 = 0 := by
  unfold remFirst
  split <;> rfl

@[simp] theorem remSecond_zero (P : Params) : remSecond P 0 = 0 := by
  unfold remSecond
  split <;> rfl

/-- The wire image of `ZeroPacket` is `zeros(90)`, in either byte order (R22, R130). -/
@[simp] theorem ser_zero (P : Params) : ser P Packet.zero = Image.zeros := by
  have hbytes : (ser P Packet.zero).toList = Image.zeros.toList := by
    rw [ser_toList]
    simp only [Packet.zero, remFirst_zero, remSecond_zero]
    rfl
  exact Vector.toList_inj.mp hbytes

theorem busy_iff_phase_ne_idle (s : State) : s.busy = true ↔ s.phase ≠ .idle := bne_iff_ne

/-- While `busy` is 1 the command port accepts nothing (R52, R193). -/
theorem fetch_eq_none_of_busy (s : State) (h : s.busy = true) : fetch s = none :=
  (fetch_eq_none s).mpr (.inl ((busy_iff_phase_ne_idle s).mp h))

/-- Every byte of the request's wire image is zero after reset. -/
theorem eq_zero_of_mem_ser_reset_req (P : Params) (b : Byte) (hb : b ∈ (ser P State.reset.req).toList) : b = 0 := by
  have hreq : ser P State.reset.req = Vector.replicate 90 0 := ser_zero P
  rw [hreq, Vector.toList_replicate] at hb
  exact List.eq_of_mem_replicate hb

/-- Settles O53: the rows of R54's table are the fields of `State.reset`; the bytes behind its packets and the two
halves of R52 are the lemmas above. -/
theorem resetValues : Obligations.ResetValues := by
  unfold Obligations.ResetValues
  refine ⟨eq_zero_of_mem_ser_reset_req Config.params, ?req, ?rsp, ?phase, ?waitCtr, ?txBuf, ?rxBuf, ?diagBuf,
    ?xres, ?xinfo, ?cls, ?ckout, ?minWait, ?maxWait, ?lastw, ?diagcnt, ?diagcls, ?busy, ?pending, ?inProgress,
    busy_iff_phase_ne_idle, fetch_eq_none_of_busy⟩
  all_goals rfl

end Sys2Proof.Machine
end

/-! PROOF. The encodings (spec/30_encoding.md): packing and unpacking the sub-fields (R95 to R98), the decoder against
the match and mask table (R107, R114), and the illegal words (R108, R109). -/

namespace Sys2Proof.Machine

open Sys2Proof

/-! ### Packing and unpacking, in either bit order -/

theorem packTid_toNat (P : Params) (d : BitVec 3) (i : BitVec 5) : (packTid P d i).toNat =
    if P.subfieldMsbFirst = true then d.toNat * 32 + i.toNat else i.toNat * 8 + d.toNat := by
  unfold packTid
  split
  · exact append_toNat d i
  · exact append_toNat i d

theorem packCid_toNat (P : Params) (r : BitVec 1) (i : BitVec 7) : (packCid P r i).toNat =
    if P.subfieldMsbFirst = true then r.toNat * 128 + i.toNat else i.toNat * 2 + r.toNat := by
  unfold packCid
  split
  · exact append_toNat r i
  · exact append_toNat i r

@[simp] theorem unpackTid_packTid (P : Params) (d : BitVec 3) (i : BitVec 5) :
    unpackTid P (packTid P d i) = (d, i) := by
  unfold unpackTid packTid
  split
  · exact Prod.ext BitVec.extractLsb'_append_eq_left BitVec.extractLsb'_append_eq_right
  · exact Prod.ext BitVec.extractLsb'_append_eq_right BitVec.extractLsb'_append_eq_left

@[simp] theorem unpackCid_packCid (P : Params) (r : BitVec 1) (i : BitVec 7) :
    unpackCid P (packCid P r i) = (r, i) := by
  unfold unpackCid packCid
  split
  · exact Prod.ext BitVec.extractLsb'_append_eq_left BitVec.extractLsb'_append_eq_right
  · exact Prod.ext BitVec.extractLsb'_append_eq_right BitVec.extractLsb'_append_eq_left

@[simp] theorem packTid_unpackTid (P : Params) (t : Byte) : packTid P (unpackTid P t).1 (unpackTid P t).2 = t := by
  unfold packTid unpackTid
  split
  · exact BitVec.extractLsb'_append_extractLsb' (w := 3) (len := 5)
  · exact BitVec.extractLsb'_append_extractLsb' (w := 5) (len := 3)

@[simp] theorem packCid_unpackCid (P : Params) (c : Byte) : packCid P (unpackCid P c).1 (unpackCid P c).2 = c := by
  unfold packCid unpackCid
  split
  · exact BitVec.extractLsb'_append_extractLsb' (w := 1) (len := 7)
  · exact BitVec.extractLsb'_append_extractLsb' (w := 7) (len := 1)

/-- Settles O13: the values are those of a concatenation, and slicing a byte undoes concatenating its two parts. -/
theorem packInvertsUnpack : Obligations.PackInvertsUnpack := by
  intro P
  exact ⟨fun d i => ⟨unpackTid_packTid P d i, packTid_toNat P d i⟩, packTid_unpackTid P,
    fun r i => ⟨unpackCid_packCid P r i, packCid_toNat P r i⟩, packCid_unpackCid P⟩

end Sys2Proof.Machine

namespace Sys2Proof

/-! ### The decoder's three answers (R114) -/

theorem opRow_eq_none_iff (op : Byte) : opRow op = none ↔ op = 0 ∨ 0x12 ≤ op.toNat := by
  have hzero : op = 0 ↔ op.toNat = 0 := (BitVec.toNat_eq (y := 0#8))
  rw [← Option.not_isSome_iff_eq_none, opRow_isSome, hzero]
  omega

theorem decodeWord_eq_badOp_iff (w : CmdWord) : decodeWord w = .error .badOp ↔ opRow (opOf w) = none := by
  rcases decodeFields_cases (opOf w) (aOf w) (bOf w) (cOf w) with
    ⟨hrow, hdec⟩ | ⟨fmt, mk, hrow, ⟨_, hdec⟩ | ⟨_, hdec⟩⟩
  · simp [decodeWord, hdec, hrow]
  · simp [decodeWord, hdec, hrow]
  · simp [decodeWord, hdec, hrow]

theorem decodeWord_eq_badForm_iff (w : CmdWord) : decodeWord w = .error .badForm ↔
    ∃ fmt mk, opRow (opOf w) = some (fmt, mk) ∧ fmt.unusedZero (aOf w) (bOf w) (cOf w) = false := by
  rcases decodeFields_cases (opOf w) (aOf w) (bOf w) (cOf w) with
    ⟨hrow, hdec⟩ | ⟨fmt, mk, hrow, ⟨hzero, hdec⟩ | ⟨hzero, hdec⟩⟩
  · simp [decodeWord, hdec, hrow]
  · simp [decodeWord, hdec, hrow, hzero]
  · simp [decodeWord, hdec, hrow, hzero]

theorem decodeWord_eq_ok_iff (w : CmdWord) (i : Instr) : decodeWord w = .ok i ↔
    ∃ fmt mk, opRow (opOf w) = some (fmt, mk) ∧ fmt.unusedZero (aOf w) (bOf w) (cOf w) = true ∧
      i = mk (aOf w) (bOf w) (cOf w) := by
  rcases decodeFields_cases (opOf w) (aOf w) (bOf w) (cOf w) with
    ⟨hrow, hdec⟩ | ⟨fmt, mk, hrow, ⟨hzero, hdec⟩ | ⟨hzero, hdec⟩⟩
  · simp [decodeWord, hdec, hrow]
  · simpa [decodeWord, hdec, hrow, hzero] using eq_comm
  · simp [decodeWord, hdec, hrow, hzero]

/-! ### A row of the table and the row of the opcode map it stands for -/

/-- The mask of a format: the opcode, and the operand bytes that must be zero (R101 to R105, R107). -/
def Format.mask : Format → CmdWord
  | .z => cmdWord 0xFF 0xFF 0xFF 0xFF
  | .b1 => cmdWord 0xFF 0 0xFF 0xFF
  | .b2 => cmdWord 0xFF 0 0 0xFF
  | .b3 => cmdWord 0xFF 0 0 0
  | .i24 => cmdWord 0xFF 0 0 0

/-- A match and mask row says what the opcode map says of its opcode. -/
structure OpcodeRow.Describes (r : OpcodeRow) (fmt : Format) (mk : Byte → Byte → Byte → Instr) : Prop where
  opRow_eq : opRow r.op = some (fmt, mk)
  matchWord_eq : r.matchWord = cmdWord r.op 0 0 0
  mask_eq : r.mask = fmt.mask
  mnemonic_eq : ∀ a b c, (mk a b c).mnemonic = r.mnemonic

theorem exists_describes {r : OpcodeRow} (hr : r ∈ opcodeTable) : ∃ fmt mk, r.Describes fmt mk := by
  simp only [opcodeTable, List.mem_cons, List.not_mem_nil, or_false] at hr
  rcases hr with rfl | rfl | rfl | rfl | rfl | rfl | rfl | rfl | rfl | rfl | rfl | rfl | rfl | rfl | rfl | rfl | rfl
  all_goals exact ⟨_, _, rfl, rfl, rfl, fun _ _ _ => rfl⟩

/-- Under the mask of a format a word is its opcode alone exactly when the format's unused bytes are zero. -/
theorem and_mask_eq_iff (fmt : Format) (op o a b c : Byte) :
    cmdWord op a b c &&& fmt.mask = cmdWord o 0 0 0 ↔ op = o ∧ fmt.unusedZero a b c = true := by
  have hkeep (x : Byte) : x &&& 0xFF#8 = x := BitVec.and_allOnes
  cases fmt <;> simp [Format.mask, Format.unusedZero, and_cmdWord, cmdWord_inj, hkeep, and_assoc]

theorem OpcodeRow.Describes.accepts_iff {r : OpcodeRow} {fmt : Format} {mk : Byte → Byte → Byte → Instr}
    (h : r.Describes fmt mk) (w : CmdWord) :
    r.accepts w = true ↔ opOf w = r.op ∧ fmt.unusedZero (aOf w) (bOf w) (cOf w) = true := by
  rw [OpcodeRow.accepts, beq_iff_eq, h.matchWord_eq, h.mask_eq, ← and_mask_eq_iff, cmdWord_fields]

/-- The table lists the opcodes `0x01` to `0x11`, each once and in order (R107). -/
theorem opcodeTable_ops : opcodeTable.map (fun r => r.op.toNat) = List.range' 1 17 := rfl

theorem exists_row_iff (op : Byte) : (∃ r ∈ opcodeTable, r.op = op) ↔ 1 ≤ op.toNat ∧ op.toNat ≤ 0x11 := by
  have hmem : op.toNat ∈ opcodeTable.map (fun r => r.op.toNat) ↔ ∃ r ∈ opcodeTable, r.op = op := by
    simp only [List.mem_map, BitVec.toNat_inj]
  rw [← hmem, opcodeTable_ops, List.mem_range'_1]
  omega

theorem row_eq_of_op_eq {r r' : OpcodeRow} (hr : r ∈ opcodeTable) (hr' : r' ∈ opcodeTable) (h : r.op = r'.op) :
    r = r' := by
  have hnodup : (opcodeTable.map (fun r => r.op.toNat)).Nodup := by
    rw [opcodeTable_ops]
    exact List.nodup_range'
  exact List.inj_on_of_nodup_map hnodup hr hr' (congrArg BitVec.toNat h)

/-! ### The decoder and the table -/

theorem op_eq_of_accepts {r : OpcodeRow} (hr : r ∈ opcodeTable) {w : CmdWord} (h : r.accepts w = true) :
    r.op = opOf w := by
  obtain ⟨fmt, mk, hdesc⟩ := exists_describes hr
  exact ((hdesc.accepts_iff w).mp h).1.symm

theorem row_eq_of_accepts {r r' : OpcodeRow} (hr : r ∈ opcodeTable) (hr' : r' ∈ opcodeTable) {w : CmdWord}
    (h : r.accepts w = true) (h' : r'.accepts w = true) : r = r' :=
  row_eq_of_op_eq hr hr' ((op_eq_of_accepts hr h).trans (op_eq_of_accepts hr' h').symm)

/-- A word that a row accepts decodes to a command of that row. -/
theorem exists_ok_of_accepts {r : OpcodeRow} (hr : r ∈ opcodeTable) {w : CmdWord} (h : r.accepts w = true) :
    ∃ i, decodeWord w = .ok i ∧ i.mnemonic = r.mnemonic := by
  obtain ⟨fmt, mk, hdesc⟩ := exists_describes hr
  obtain ⟨hop, hzero⟩ := (hdesc.accepts_iff w).mp h
  exact ⟨_, (decodeWord_eq_ok_iff w _).mpr ⟨fmt, mk, hop ▸ hdesc.opRow_eq, hzero, rfl⟩, hdesc.mnemonic_eq ..⟩

theorem decodeWord_eq_badOp_iff_no_row (w : CmdWord) :
    decodeWord w = .error .badOp ↔ ∀ r ∈ opcodeTable, r.op ≠ opOf w := by
  rw [decodeWord_eq_badOp_iff, ← Option.not_isSome_iff_eq_none, opRow_isSome, ← exists_row_iff]
  simp only [not_exists, not_and, ne_eq]

theorem exists_ok_iff_accepts (w : CmdWord) :
    (∃ i, decodeWord w = .ok i) ↔ ∃ r ∈ opcodeTable, r.accepts w = true := by
  constructor
  · rintro ⟨i, hi⟩
    obtain ⟨fmt, mk, hrow, hzero, -⟩ := (decodeWord_eq_ok_iff w i).mp hi
    obtain ⟨r, hr, hop⟩ := (exists_row_iff (opOf w)).mpr ((opRow_isSome _).mp (by rw [hrow]; rfl))
    obtain ⟨fmt', mk', hdesc⟩ := exists_describes hr
    have hsame : some (fmt', mk') = some (fmt, mk) := by rw [← hdesc.opRow_eq, hop, hrow]
    cases hsame
    exact ⟨r, hr, (hdesc.accepts_iff w).mpr ⟨hop.symm, hzero⟩⟩
  · rintro ⟨r, hr, hacc⟩
    obtain ⟨i, hi, -⟩ := exists_ok_of_accepts hr hacc
    exact ⟨i, hi⟩

/-- `BAD_FORM` is what is left: the opcode has a row, and no row accepts the word. -/
theorem decodeWord_eq_badForm_iff_not_accepted (w : CmdWord) : decodeWord w = .error .badForm ↔
    (∃ r ∈ opcodeTable, r.op = opOf w) ∧ ∀ r ∈ opcodeTable, r.accepts w = false := by
  have hlegal : (∃ r ∈ opcodeTable, r.op = opOf w) ↔ decodeWord w ≠ .error .badOp := by
    rw [ne_eq, decodeWord_eq_badOp_iff_no_row]
    push Not
    rfl
  have hrefused : (∀ r ∈ opcodeTable, r.accepts w = false) ↔ ¬ ∃ i, decodeWord w = .ok i := by
    rw [exists_ok_iff_accepts]
    simp only [not_exists, not_and, Bool.not_eq_true]
  rw [hlegal, hrefused]
  cases decodeWord w with
  | ok i => simp
  | error e => cases e <;> simp

/-- Settles O3: the decoder's three answers in the order of R114, and the same three read off the table of R107. -/
theorem decodeAgreesWithMatchAndMask : Obligations.DecodeAgreesWithMatchAndMask := by
  intro w
  refine ⟨(decodeWord_eq_badOp_iff w).trans (opRow_eq_none_iff _), decodeWord_eq_badForm_iff w,
    decodeWord_eq_ok_iff w, exists_ok_iff_accepts w, ?mnemonic, decodeWord_eq_badOp_iff_no_row w,
    decodeWord_eq_badForm_iff_not_accepted w, fun r hr r' hr' => row_eq_of_accepts hr hr'⟩
  case mnemonic =>
    intro i r hr hi hacc
    obtain ⟨j, hj, hname⟩ := exists_ok_of_accepts hr hacc
    have hsame : Except.ok i = Except.ok j := hi.symm.trans hj
    cases hsame
    exact hname

end Sys2Proof

namespace Sys2Proof.Machine

open Sys2Proof

/-! ### Illegal words (R108, R109) -/

/-- A word on the port that is no command leaves it and completes with its code, and that is the whole step. -/
theorem step_of_decode_error {s : State} {w : CmdWord} {rest : List CmdWord} {e : DecodeError}
    (hidle : s.phase = .idle) (hport : s.port = w :: rest) (hdec : decodeWord w = .error e) :
    step s = .next (answered (rejectCode e) 0 { s with port := rest }) := by
  have hfetch : fetch s = some w := (fetch_eq_some s w).mpr ⟨hidle, by rw [hport]; rfl⟩
  have htake : takeWord s = { s with port := rest } := by rw [takeWord, hport]; rfl
  rw [step, hfetch]
  simp only [hdec, htake]
  rfl

/-- A word whose opcode has a format that wants some non-zero byte to be zero is a `BAD_FORM` (R109). -/
theorem decodeWord_badForm_of_format {fmt : Format} {op a b c : Byte}
    (hfmt : (opRow op).map Prod.fst = some fmt) (hused : ¬ fmt.unusedZero a b c = true) :
    decodeWord (cmdWord op a b c) = .error .badForm := by
  obtain ⟨⟨_, mk⟩, hrow, rfl⟩ := Option.map_eq_some_iff.mp hfmt
  rw [decodeWord_eq_badForm_iff]
  simp only [opOf_cmdWord, aOf_cmdWord, bOf_cmdWord, cOf_cmdWord]
  exact ⟨_, mk, hrow, Bool.eq_false_iff.mpr hused⟩

theorem format_z : ∀ op ∈ ([0x08, 0x0D, 0x0E] : List Byte), (opRow op).map Prod.fst = some .z := by decide

theorem format_b1 : ∀ op ∈ ([0x03, 0x04, 0x05, 0x06, 0x07, 0x0A, 0x11] : List Byte),
    (opRow op).map Prod.fst = some .b1 := by decide

theorem format_b2 : ∀ op ∈ ([0x02, 0x09, 0x0F, 0x10] : List Byte), (opRow op).map Prod.fst = some .b2 := by decide

/-- R109, format by format. -/
theorem decodeWord_badForm_of_unused {op a b c : Byte}
    (h : op ∈ ([0x08, 0x0D, 0x0E] : List Byte) ∧ (a ≠ 0 ∨ b ≠ 0 ∨ c ≠ 0) ∨
      op ∈ ([0x03, 0x04, 0x05, 0x06, 0x07, 0x0A, 0x11] : List Byte) ∧ (b ≠ 0 ∨ c ≠ 0) ∨
      op ∈ ([0x02, 0x09, 0x0F, 0x10] : List Byte) ∧ c ≠ 0) :
    decodeWord (cmdWord op a b c) = .error .badForm := by
  rcases h with ⟨hop, hused⟩ | ⟨hop, hused⟩ | ⟨hop, hused⟩
  · exact decodeWord_badForm_of_format (format_z op hop) (by simp [Format.unusedZero]; tauto)
  · exact decodeWord_badForm_of_format (format_b1 op hop) (by simp [Format.unusedZero]; tauto)
  · exact decodeWord_badForm_of_format (format_b2 op hop) (by simpa [Format.unusedZero] using hused)

/-- Settles O5: what is illegal is a fact about the decoder alone; what the block then does is one lemma about the
step. -/
theorem illegalWordsChangeNothing : Obligations.IllegalWordsChangeNothing := by
  refine ⟨?badOp, ?legal, ?badForm⟩
  case badOp =>
    intro s w rest hidle hport hop
    have hdec : decodeWord w = .error .badOp := (decodeWord_eq_badOp_iff w).mpr ((opRow_eq_none_iff _).mpr hop)
    exact step_of_decode_error hidle hport hdec
  case legal =>
    intro w hlo hhi hbad
    obtain ⟨r, hr, hop⟩ := (exists_row_iff (opOf w)).mpr ⟨hlo, hhi⟩
    exact (decodeWord_eq_badOp_iff_no_row w).mp hbad r hr hop
  case badForm =>
    intro s w rest op a b c hidle hport hw hused
    subst hw
    exact step_of_decode_error hidle hport (decodeWord_badForm_of_unused hused)

end Sys2Proof.Machine

/-! PROOF. The codec (spec/40_codec.md): `Ser` places the fields at their offsets (R130), `Des` reads them back from
there and tests only the length (R131), and each is the inverse of the other (R132, R139). -/

namespace Sys2Proof.Machine

open Sys2Proof

/-! ### The two byte orders of `remaining_packets` (R63) -/

theorem rem_bytes_of_bigEndian {P : Params} (h : P.remBigEndian = true) (r : BitVec 16) :
    remFirst P r = r.extractLsb' 8 8 ∧ remSecond P r = r.extractLsb' 0 8 :=
  ⟨if_pos h, if_pos h⟩

theorem rem_bytes_of_littleEndian {P : Params} (h : P.remBigEndian = false) (r : BitVec 16) :
    remFirst P r = r.extractLsb' 0 8 ∧ remSecond P r = r.extractLsb' 8 8 :=
  ⟨if_neg (ne_true_of_eq_false h), if_neg (ne_true_of_eq_false h)⟩

/-- Settles O9: the offsets are the field lemmas of `ser`; only bytes 2 and 3 depend on the byte order. -/
theorem serPlacesEveryField : Obligations.SerPlacesEveryField := by
  intro P p
  refine ⟨ser_status P p, ser_transactionId P p, ?bigEndian, ?littleEndian, ser_protocolType P p, ser_dataSize P p,
    ser_commandClass P p, ser_commandId P p, ser_args P p, ser_crc P p, ser_reserved P p⟩
  case bigEndian =>
    intro horder
    rw [ser_remFirst, ser_remSecond]
    exact rem_bytes_of_bigEndian horder p.remainingPackets
  case littleEndian =>
    intro horder
    rw [ser_remFirst, ser_remSecond]
    exact rem_bytes_of_littleEndian horder p.remainingPackets

/-! ### The fields `Des` reads (R131) -/

section Fields

variable (P : Params) (w : Image)

@[simp] theorem desImage_status : (desImage P w).status = w[0] := rfl
@[simp] theorem desImage_transactionId : (desImage P w).transactionId = w[1] := rfl
@[simp] theorem desImage_remainingPackets : (desImage P w).remainingPackets = remAssemble P w[2] w[3] := rfl
@[simp] theorem desImage_protocolType : (desImage P w).protocolType = w[4] := rfl
@[simp] theorem desImage_dataSize : (desImage P w).dataSize = w[5] := rfl
@[simp] theorem desImage_commandClass : (desImage P w).commandClass = w[6] := rfl
@[simp] theorem desImage_commandId : (desImage P w).commandId = w[7] := rfl
@[simp] theorem desImage_crc : (desImage P w).crc = w[88] := rfl
@[simp] theorem desImage_reserved : (desImage P w).reserved = w[89] := rfl

@[simp] theorem desImage_args (i : Nat) (h : i < 80) : (desImage P w).args[i] = w[8 + i] :=
  Vector.getElem_ofFn h

/-- On the bytes of an image `Des` always answers. -/
@[simp] theorem des_toList : des P w.toList = some (desImage P w) := by
  rw [des, (imageOfBytes_eq_some w.toList w).mpr rfl, Option.map_some]

end Fields

theorem des_eq_none_iff (P : Params) (b : List Byte) : des P b = none ↔ b.length ≠ 90 := by
  rw [des, Option.map_eq_none_iff, imageOfBytes_eq_none]

theorem exists_image_of_length {b : List Byte} (h : b.length = 90) : ∃ w : Image, w.toList = b := by
  obtain ⟨w, hw⟩ := imageOfBytes_of_length b h
  exact ⟨w, (imageOfBytes_eq_some b w).mp hw⟩

/-- Settles O10: a sequence of 90 bytes is the list of an image `w`, and `desImage` reads each field off `w`. -/
theorem desTestsOnlyTheLength : Obligations.DesTestsOnlyTheLength := by
  intro P b
  refine ⟨(des_eq_none_iff P b).mpr, fun h => ?fields⟩
  case fields =>
    obtain ⟨w, rfl⟩ := exists_image_of_length h
    simp only [Vector.getElem_toList]
    exact ⟨desImage P w, des_toList P w, desImage_status P w, desImage_transactionId P w,
      desImage_remainingPackets P w, desImage_protocolType P w, desImage_dataSize P w, desImage_commandClass P w,
      desImage_commandId P w, desImage_args P w, desImage_crc P w, desImage_reserved P w⟩

/-! ### `Ser` and `Des` are inverse (R132, R139) -/

/-- An image is its eight header bytes, its 80 argument bytes, the checksum and the reserved byte (R61). -/
theorem image_eq_of_parts {v w : Image} (header : ∀ (i : Nat) (h : i < 8), v[i] = w[i])
    (args : ∀ (i : Nat) (h : i < 80), v[8 + i] = w[8 + i]) (crc : v[88] = w[88]) (reserved : v[89] = w[89]) :
    v = w := by
  refine Vector.ext fun i hi => ?_
  obtain hheader | ⟨j, hj, rfl⟩ | rfl | rfl : i < 8 ∨ (∃ j, j < 80 ∧ i = 8 + j) ∨ i = 88 ∨ i = 89 := by
    by_cases hlow : i < 8
    · exact .inl hlow
    · by_cases hmid : i < 88
      · exact .inr (.inl ⟨i - 8, by omega, by omega⟩)
      · omega
  · exact header i hheader
  · exact args j hj
  · exact crc
  · exact reserved

/-- `Des` after `Ser`: every field is read from where it was placed, `remaining_packets` in the same byte order. -/
@[simp] theorem desImage_ser (P : Params) (p : Packet) : desImage P (ser P p) = p := by
  have hargs : (desImage P (ser P p)).args = p.args := by
    refine Vector.ext fun i hi => ?_
    rw [desImage_args P _ i hi, ser_args P p i hi]
  have hrem : (desImage P (ser P p)).remainingPackets = p.remainingPackets := by simp
  cases p
  simp only [desImage, ser_status, ser_transactionId, ser_protocolType, ser_dataSize, ser_commandClass,
    ser_commandId, ser_crc, ser_reserved, Packet.mk.injEq, and_self, true_and, and_true]
  exact ⟨hrem, hargs⟩

/-- `Ser` after `Des`: every byte of an image belongs to a field, which puts it back. -/
@[simp] theorem ser_desImage (P : Params) (w : Image) : ser P (desImage P w) = w := by
  refine image_eq_of_parts ?header ?args ?crc ?reserved
  case header =>
    intro i hi
    interval_cases i <;> simp
  case args =>
    intro i hi
    rw [ser_args P _ i hi, desImage_args P w i hi]
  case crc => rw [ser_crc, desImage_crc]
  case reserved => rw [ser_reserved, desImage_reserved]

theorem ser_injective (P : Params) : Function.Injective (ser P) :=
  Function.LeftInverse.injective (desImage_ser P)

theorem des_ser (P : Params) (p : Packet) : des P (ser P p).toList = some p := by
  rw [des_toList, desImage_ser]

/-- Settles O11: the packet comes back whole, so its packed bytes and their sub-fields do. -/
theorem desOfSerIsThePacket : Obligations.DesOfSerIsThePacket := by
  intro P p
  refine ⟨des_ser P p, fun q hq => ?subfields⟩
  case subfields =>
    have hsame : p = q := Option.some.inj ((des_ser P p).symm.trans hq)
    subst hsame
    exact ⟨rfl, rfl⟩

/-- Settles O12: `Des` is a right inverse of `Ser` on the sequences of 90 bytes, and a left inverse on packets. -/
theorem serIsABijection : Obligations.SerIsABijection := by
  intro P
  refine ⟨fun b h => ?surjective, fun p q => (ser_injective P).eq_iff⟩
  case surjective =>
    obtain ⟨w, rfl⟩ := exists_image_of_length h
    exact ⟨desImage P w, des_toList P w, by rw [ser_desImage]⟩

end Sys2Proof.Machine

/-! PROOF. The checksum (spec/41_checksum.md): the XOR of the domain, wire bytes 2 to 87 (R160), what it depends on
(R161), and how it changes with its bytes (R162). -/

namespace Sys2Proof.Machine

open Sys2Proof

/-! ### The XOR of a list of positions -/

/-- The XOR of `f` over a list of positions, folded as the obligations write it. -/
def xorOver (f : Nat → Byte) (l : List Nat) : Byte := l.foldl (fun acc k => acc ^^^ f k) 0

@[simp] theorem xorOver_nil (f : Nat → Byte) : xorOver f [] = 0 := rfl

theorem xorOver_eq_foldl_map (f : Nat → Byte) (l : List Nat) : xorOver f l = (l.map f).foldl (· ^^^ ·) 0 :=
  List.foldl_map.symm

@[simp] theorem xorOver_cons (f : Nat → Byte) (k : Nat) (l : List Nat) :
    xorOver f (k :: l) = f k ^^^ xorOver f l := by
  rw [xorOver_eq_foldl_map, List.map_cons, List.foldl_cons, foldl_xor_init, ← xorOver_eq_foldl_map]
  simp

theorem xorOver_xor (f g : Nat → Byte) (l : List Nat) :
    xorOver (fun k => f k ^^^ g k) l = xorOver f l ^^^ xorOver g l := by
  induction l with
  | nil => simp
  | cons k l ih =>
    simp only [xorOver_cons, ih]
    ac_rfl

theorem xorOver_eq_zero {f : Nat → Byte} {l : List Nat} (h : ∀ k ∈ l, f k = 0) : xorOver f l = 0 := by
  induction l with
  | nil => rfl
  | cons k l ih =>
    obtain ⟨hk, hl⟩ := List.forall_mem_cons.mp h
    simp [hk, ih hl]

/-- Where `f` is zero but at one position, that position is what is left of the XOR. -/
theorem xorOver_eq_single {f : Nat → Byte} {l : List Nat} {k : Nat} (hnodup : l.Nodup) (hmem : k ∈ l)
    (hzero : ∀ j ∈ l, j ≠ k → f j = 0) : xorOver f l = f k := by
  have hperm : xorOver f l = xorOver f (k :: l.erase k) := by
    rw [xorOver, (List.perm_cons_erase hmem).foldl_eq' (by intros; ac_rfl), xorOver]
  have hrest : ∀ j ∈ l.erase k, f j = 0 := by
    intro j hj
    obtain ⟨hne, hl⟩ := hnodup.mem_erase_iff.mp hj
    exact hzero j hl hne
  simp [hperm, xorOver_eq_zero hrest]

/-! ### The domain (R160) -/

/-- Byte `k` of the domain: the wire byte at offset `k + 2`. -/
def domainByte (w : Image) (k : Nat) : Byte := w.toList.getD (k + 2) 0

theorem domainByte_eq (w : Image) (k : Nat) (h : k + 2 < 90) : domainByte w k = w[k + 2] := by
  rw [domainByte, List.getD_eq_getElem _ _ (by simpa using h), Vector.getElem_toList]

theorem domain_eq_map (w : Image) : (w.toList.drop 2).take 86 = (List.range 86).map (domainByte w) := by
  refine List.ext_getElem (by simp) fun k hk _ => ?_
  have hlt : k < 86 := by simpa using hk
  simp [domainByte_eq w k (by omega), Nat.add_comm]

theorem cksum_eq_xorOver (w : Image) : cksum w = xorOver (domainByte w) (List.range 86) := by
  rw [cksum, domain_eq_map, ← xorOver_eq_foldl_map]

theorem domain_ser (P : Params) (p : Packet) : ((ser P p).toList.drop 2).take 86 =
    [remFirst P p.remainingPackets, remSecond P p.remainingPackets, p.protocolType, p.dataSize, p.commandClass,
      p.commandId] ++ p.args.toList := by
  simp [ser_toList]

/-- The two bytes of `remaining_packets` have the same XOR in either order (R63). -/
theorem remFirst_xor_remSecond (P : Params) (r : BitVec 16) :
    remFirst P r ^^^ remSecond P r = r.extractLsb' 8 8 ^^^ r.extractLsb' 0 8 := by
  cases horder : P.remBigEndian with
  | true =>
    obtain ⟨hfirst, hsecond⟩ := rem_bytes_of_bigEndian horder r
    rw [hfirst, hsecond]
  | false =>
    obtain ⟨hfirst, hsecond⟩ := rem_bytes_of_littleEndian horder r
    rw [hfirst, hsecond, BitVec.xor_comm]

/-- The checksum in fields; no parameter stands on the right. -/
theorem cksum_ser (P : Params) (p : Packet) : cksum (ser P p) = p.args.toList.foldl (· ^^^ ·)
    (p.remainingPackets.extractLsb' 8 8 ^^^ p.remainingPackets.extractLsb' 0 8 ^^^ p.protocolType ^^^ p.dataSize ^^^
      p.commandClass ^^^ p.commandId) := by
  rw [cksum, domain_ser, List.foldl_append, ← remFirst_xor_remSecond P]
  simp

/-- Settles O19: the domain listed byte by byte, and the domain of a serialised packet listed field by field. -/
theorem cksumIsXorOfTheDomain : Obligations.CksumIsXorOfTheDomain :=
  ⟨cksum_eq_xorOver, cksum_ser⟩

/-! ### What the checksum depends on (R161) -/

theorem domainByte_congr {w w' : Image} (h : ∀ (k : Nat) (_ : k < 90), 2 ≤ k → k ≤ 87 → w[k] = w'[k]) {k : Nat}
    (hk : k < 86) : domainByte w k = domainByte w' k := by
  have hlt : k + 2 < 90 := by omega
  rw [domainByte_eq w k hlt, domainByte_eq w' k hlt, h (k + 2) hlt (by omega) (by omega)]

theorem cksum_congr {w w' : Image} (h : ∀ (k : Nat) (_ : k < 90), 2 ≤ k → k ≤ 87 → w[k] = w'[k]) :
    cksum w = cksum w' := by
  have hdomain : (List.range 86).map (domainByte w) = (List.range 86).map (domainByte w') :=
    List.map_congr_left fun _ hk => domainByte_congr h (List.mem_range.mp hk)
  rw [cksum, cksum, domain_eq_map, domain_eq_map, hdomain]

theorem stamp_stamp (P : Params) (p : Packet) : stamp P (stamp P p) = stamp P p := by
  have hsame : cksum (ser P (stamp P p)) = cksum (ser P p) := cksum_ser_crc P p _
  rw [stamp, hsame]
  rfl

/-- Settles O20: equal bytes make equal domains, and the field form names neither the fields outside the domain nor a
parameter. -/
theorem cksumDependsOnTheDomainOnly : Obligations.CksumDependsOnTheDomainOnly := by
  refine ⟨fun w w' => cksum_congr, ?fields, stamp_stamp⟩
  case fields =>
    intro P P' p st tid c r
    exact (cksum_ser P _).trans (cksum_ser P' p).symm

/-! ### How the checksum changes (R162) -/

/-- The XOR, over the domain, of the differences between two images. -/
def domainDiff (w w' : Image) : Byte := xorOver (fun k => domainByte w k ^^^ domainByte w' k) (List.range 86)

theorem domainDiff_eq (w w' : Image) : domainDiff w w' = cksum w ^^^ cksum w' := by
  rw [domainDiff, xorOver_xor, ← cksum_eq_xorOver, ← cksum_eq_xorOver]

/-- The checksum changes by the XOR of the differences. -/
theorem cksum_eq_xor_domainDiff (w w' : Image) : cksum w' = cksum w ^^^ domainDiff w w' := by
  rw [domainDiff_eq, ← BitVec.xor_assoc, BitVec.xor_self, BitVec.zero_xor]

/-- Several bytes changed leave the checksum as it was exactly when their differences cancel. -/
theorem cksum_eq_iff_domainDiff (w w' : Image) : cksum w' = cksum w ↔ domainDiff w w' = 0 := by
  rw [domainDiff_eq]
  exact eq_comm.trans BitVec.xor_eq_zero_iff.symm

theorem domainDiff_of_one_byte {w w' : Image} {k : Nat} (hk : k < 90) (hlo : 2 ≤ k) (hhi : k ≤ 87)
    (hothers : ∀ (j : Nat) (hj : j < 90), j ≠ k → w[j] = w'[j]) : domainDiff w w' = w[k] ^^^ w'[k] := by
  obtain ⟨d, rfl⟩ := Nat.exists_eq_add_of_le' hlo
  have hzero : ∀ j ∈ List.range 86, j ≠ d → domainByte w j ^^^ domainByte w' j = 0 := by
    intro j hj hne
    have hlt : j + 2 < 90 := by
      have := List.mem_range.mp hj
      omega
    rw [domainByte_eq w j hlt, domainByte_eq w' j hlt, hothers (j + 2) hlt (by omega)]
    exact BitVec.xor_self
  rw [domainDiff, xorOver_eq_single List.nodup_range (List.mem_range.mpr (by omega)) hzero, domainByte_eq w d hk,
    domainByte_eq w' d hk]

theorem cksum_eq_of_perm {w w' : Image} (h : ((w.toList.drop 2).take 86).Perm ((w'.toList.drop 2).take 86)) :
    cksum w = cksum w' :=
  h.foldl_eq' (fun _ _ _ _ _ => by ac_rfl) 0

/-- Settles O21: the checksum changes by the XOR of the differences over the domain; with one byte changed that is the
byte's own difference, which is not zero. -/
theorem cksumChangesExactlyByTheDifference : Obligations.CksumChangesExactlyByTheDifference := by
  refine ⟨?oneByte, cksum_eq_iff_domainDiff, fun w w' => cksum_eq_of_perm⟩
  case oneByte =>
    intro w w' k hk hlo hhi hne hothers
    have hdiff : domainDiff w w' = w[k] ^^^ w'[k] := domainDiff_of_one_byte hk hlo hhi hothers
    constructor
    · rw [cksum_eq_xor_domainDiff w w', hdiff, BitVec.xor_assoc]
    · rw [ne_eq, cksum_eq_iff_domainDiff, hdiff]
      exact BitVec.xor_eq_zero_iff.not.mpr hne

end Sys2Proof.Machine

/-! PROOF. The validator (spec/44_validator.md): one lemma per step of the decision order (R231 to R233), the order
itself (R230), and the range of the verdict with the exact condition of `Matched` (R237). -/

namespace Sys2Proof.Machine

open Sys2Proof

/-! ### The verdict on an echoed response (R233) -/

/-- The part of R7's distinctness the decision rests on (`Params.statusDistinct`). -/
theorem failure_statuses_distinct (P : Params) : P.statusNotSupported ≠ P.statusFailure ∧
    P.statusTimeout ≠ P.statusFailure ∧ P.statusTimeout ≠ P.statusNotSupported := by
  have h := P.statusDistinct
  grind

/-- Step 3 of the decision order: what the status byte alone decides once steps 1 and 2 did not fire
(`classify_of_echo`). -/
def statusVerdict (P : Params) (st : Byte) : Classification :=
  if st = P.statusFailure then .commandFailed
  else if st = P.statusNotSupported then .commandNotSupported
  else if st = P.statusTimeout then .commandTimedOut
  else .matched

@[simp] theorem statusVerdict_statusFailure (P : Params) : statusVerdict P P.statusFailure = .commandFailed :=
  if_pos rfl

@[simp] theorem statusVerdict_statusNotSupported (P : Params) :
    statusVerdict P P.statusNotSupported = .commandNotSupported := by
  obtain ⟨hfailure, -, -⟩ := failure_statuses_distinct P
  rw [statusVerdict, if_neg hfailure, if_pos rfl]

@[simp] theorem statusVerdict_statusTimeout (P : Params) : statusVerdict P P.statusTimeout = .commandTimedOut := by
  obtain ⟨-, hfailure, hnotSupported⟩ := failure_statuses_distinct P
  rw [statusVerdict, if_neg hfailure, if_neg hnotSupported, if_pos rfl]

theorem statusVerdict_eq_matched_iff (P : Params) (st : Byte) : statusVerdict P st = .matched ↔
    st ≠ P.statusFailure ∧ st ≠ P.statusNotSupported ∧ st ≠ P.statusTimeout := by
  fun_cases statusVerdict P st <;> simp_all

theorem statusVerdict_ne_deviceBusy (P : Params) (st : Byte) : statusVerdict P st ≠ .deviceBusy := by
  fun_cases statusVerdict P st <;> decide

/-! ### The three steps of the decision (R231 to R233) -/

/-- The response fails to echo the request: the test of step 2 (R232). -/
def EchoDiffers (q r : Packet) : Prop :=
  r.remainingPackets ≠ q.remainingPackets ∨ r.commandClass ≠ q.commandClass ∨ r.commandId ≠ q.commandId

theorem not_echoDiffers_iff (q r : Packet) : ¬ EchoDiffers q r ↔
    r.remainingPackets = q.remainingPackets ∧ r.commandClass = q.commandClass ∧ r.commandId = q.commandId := by
  simp [EchoDiffers]

section Steps

variable {P : Params} {x : BitVec 3} {q r : Packet}

theorem classify_of_xres_ne_ok (hx : x ≠ xresOk) : classify P x q r = .transferError := if_pos hx

theorem classify_of_echoDiffers (hdiff : EchoDiffers q r) : classify P xresOk q r = .fieldMismatch :=
  (if_neg (not_not.mpr rfl)).trans (if_pos hdiff)

theorem classify_of_echo (hecho : ¬ EchoDiffers q r) : classify P xresOk q r = statusVerdict P r.status :=
  (if_neg (not_not.mpr rfl)).trans (if_neg hecho)

end Steps

/-! ### The order and the range (R230, R237) -/

/-- Settles O28: one step lemma per clause; the three status codes are distinct, so their tests cannot shadow each
other. -/
theorem classifyTakesTheFirstMatch : Obligations.ClassifyTakesTheFirstMatch := by
  intro P x q r
  refine ⟨classify_of_xres_ne_ok, ?mismatch, ?failed, ?notSupported, ?timedOut, ?matched⟩
  case mismatch =>
    rintro rfl hdiff
    exact classify_of_echoDiffers hdiff
  case failed =>
    rintro rfl hecho hst
    exact (classify_of_echo hecho).trans (hst ▸ statusVerdict_statusFailure P)
  case notSupported =>
    rintro rfl hecho hst
    exact (classify_of_echo hecho).trans (hst ▸ statusVerdict_statusNotSupported P)
  case timedOut =>
    rintro rfl hecho hst
    exact (classify_of_echo hecho).trans (hst ▸ statusVerdict_statusTimeout P)
  case matched =>
    rintro rfl hecho hfailure hnotSupported htimeout
    exact (classify_of_echo hecho).trans
      ((statusVerdict_eq_matched_iff P r.status).mpr ⟨hfailure, hnotSupported, htimeout⟩)

theorem classify_ne_deviceBusy (P : Params) (x : BitVec 3) (q r : Packet) : classify P x q r ≠ .deviceBusy := by
  by_cases hx : x = xresOk
  · subst hx
    by_cases hdiff : EchoDiffers q r
    · simp [classify_of_echoDiffers hdiff]
    · simpa only [classify_of_echo hdiff] using statusVerdict_ne_deviceBusy P r.status
  · simp [classify_of_xres_ne_ok hx]

theorem classify_eq_matched_iff (P : Params) (q r : Packet) : classify P xresOk q r = .matched ↔
    ¬ EchoDiffers q r ∧ statusVerdict P r.status = .matched := by
  by_cases hdiff : EchoDiffers q r
  · simp [classify_of_echoDiffers hdiff, hdiff]
  · simp [classify_of_echo hdiff, hdiff]

/-- Settles O29: no step answers `DeviceBusy`, and `Matched` is left only when steps 1 to 3 all pass. -/
theorem classifyNeverSaysBusy : Obligations.ClassifyNeverSaysBusy := by
  intro P x q r
  refine ⟨classify_ne_deviceBusy P x q r, (classify_eq_matched_iff P q r).trans ?_⟩
  rw [not_echoDiffers_iff, statusVerdict_eq_matched_iff, and_assoc, and_assoc]

end Sys2Proof.Machine

/-! PROOF. Rejection (spec/60_exceptions.md): a word that completes with another code than `OK` has changed nothing and
emitted nothing but its completion (R271). -/

namespace Sys2Proof.Machine

open Sys2Proof

/-! ### Completions on the record of outputs -/

/-- A record that ends in a completion names the completion just answered and what was there before it. -/
theorem answered_trace_eq_append_complete {c c' : CompletionCode} {d d' : BitVec 32} {u : State}
    {before : List Output} (h : (answered c d u).trace = before ++ [.complete c' d']) :
    before = u.trace ∧ c' = c ∧ d' = d := by
  obtain ⟨htrace, hlast⟩ := List.append_inj' h rfl
  cases hlast
  exact ⟨htrace.symm, rfl, rfl⟩

/-- An exchange just started has the outbound request last on the record, no completion (R196). -/
theorem startExchange_trace_ne_append_complete (s : State) (before : List Output) (c : CompletionCode)
    (d : BitVec 32) : (startExchange s).trace ≠ before ++ [.complete c d] := by
  intro h
  cases (List.append_inj' h rfl).2

/-- The codes 1 to 7 are those of R260 but `OK` and the code of a failed exchange. -/
theorem CompletionCode.code_between_iff (c : CompletionCode) :
    1 ≤ c.code.toNat ∧ c.code.toNat ≤ 7 ↔ c ≠ .ok ∧ c ≠ .xchgFailed := by
  cases c <;> decide

/-! ### How an accepted word leaves the block -/

/-- What an accepted word can make of the state `s` it finds: the only ways it can change more than the record of
outputs are to complete `OK` and to start an exchange. -/
inductive AcceptedOutcome (s : State) : State → Prop
  /-- A rejection or a read. -/
  | answeredOnly (c : CompletionCode) (d : BitVec 32) (hc : c ≠ .xchgFailed) : AcceptedOutcome s (answered c d s)
  /-- A command that did its work, whatever that is. -/
  | succeeded (d : BitVec 32) (u : State) : AcceptedOutcome s (answered .ok d u)
  /-- An `XCHG` whose completion is still to come (R204). -/
  | started : AcceptedOutcome s (startExchange s)

theorem exec_acceptedOutcome {i : Instr} {s t : State} (h : exec i s = .next t) : AcceptedOutcome s t := by
  obtain ⟨c, d, rfl, _, _, _, hc⟩ | ⟨_, _, rfl, _⟩ | ⟨_, _, _, rfl⟩ | ⟨_, rfl⟩ | ⟨_, _, _, rfl⟩ | ⟨_, rfl⟩ |
    ⟨_, _, rfl⟩ | ⟨_, _, rfl⟩ | ⟨_, _, _, rfl⟩ | ⟨_, rfl⟩ | ⟨_, _, _, _, rfl⟩ := exec_cases h
  case inl => exact .answeredOnly c d hc
  case inr.inr.inr.inr.inr.inr.inr.inr.inl => exact .started
  all_goals exact .succeeded _ _

theorem rejectCode_ne_xchgFailed (e : DecodeError) : rejectCode e ≠ .xchgFailed := by
  cases e <;> decide

/-- A step that accepts a word is a command's or an illegal word's, and either meets the state without the word. -/
theorem step_acceptedOutcome {s t : State} {w : CmdWord} {rest : List CmdWord} (hidle : s.phase = .idle)
    (hport : s.port = w :: rest) (hstep : step s = .next t) : AcceptedOutcome { s with port := rest } t := by
  have htake : takeWord s = { s with port := rest } := by rw [takeWord, hport]; rfl
  rw [← htake]
  obtain ⟨_, i, _, _, hexec⟩ | ⟨_, e, _, _, rfl⟩ | ⟨hnone, _⟩ := step_cases hstep
  · exact exec_acceptedOutcome hexec
  · exact .answeredOnly (rejectCode e) 0 (rejectCode_ne_xchgFailed e)
  · obtain hbusy | hempty := (fetch_eq_none s).mp hnone
    · exact absurd hidle hbusy
    · exact absurd (hport.symm.trans hempty) (List.cons_ne_nil w rest)

/-- Settles O33: of the outcomes of an accepted word, one that completes with another code than `OK` can only be the
one that adds its completion and nothing else. -/
theorem rejectedCommandChangesNothing : Obligations.RejectedCommandChangesNothing := by
  intro s t w rest before c d hidle hport hstep htrace hne
  cases step_acceptedOutcome hidle hport hstep with
  | answeredOnly c' d' hc =>
    obtain ⟨hbefore, rfl, rfl⟩ := answered_trace_eq_append_complete htrace
    exact ⟨rfl, hbefore, (CompletionCode.code_between_iff c).mpr ⟨hne, hc⟩⟩
  | succeeded d' u =>
    obtain ⟨_, hok, _⟩ := answered_trace_eq_append_complete htrace
    exact absurd hok hne
  | started => exact absurd htrace (startExchange_trace_ne_append_complete _ before c d)

end Sys2Proof.Machine

/-! PROOF. Encoding and decoding (spec/30_encoding.md section 4): the rows of the opcode map and the encoder speak of
the same words, so each of `encode` and `decodeWord` undoes the other. -/

namespace Sys2Proof

/-- The row of the opcode map a command belongs to, with the operand bytes it has there: its opcode, its format and
the format's reading of the bytes. -/
structure Instr.InRow (i : Instr) (op a b c : Byte) (fmt : Format) (mk : Byte → Byte → Byte → Instr) : Prop where
  opRow_eq : opRow op = some (fmt, mk)
  unusedZero : fmt.unusedZero a b c = true
  eq_mk : i = mk a b c

/-- Every command belongs to a row; a 24-bit immediate is its three bytes there (R106). -/
theorem Instr.exists_inRow (i : Instr) : ∃ op a b c fmt mk, i.InRow op a b c fmt mk := by
  cases i with
  | build cls id size => exact ⟨0x01, cls, id, size, _, _, rfl, rfl, rfl⟩
  | warg i v => exact ⟨0x02, i, v, 0, _, _, rfl, rfl, rfl⟩
  | setdev v => exact ⟨0x03, v, 0, 0, _, _, rfl, rfl, rfl⟩
  | settid v => exact ⟨0x04, v, 0, 0, _, _, rfl, rfl, rfl⟩
  | setdir v => exact ⟨0x05, v, 0, 0, _, _, rfl, rfl, rfl⟩
  | setcid v => exact ⟨0x06, v, 0, 0, _, _, rfl, rfl, rfl⟩
  | cksum sel => exact ⟨0x07, sel, 0, 0, _, _, rfl, rfl, rfl⟩
  | ser => exact ⟨0x08, 0, 0, 0, _, _, rfl, rfl, rfl⟩
  | wrx off v => exact ⟨0x09, off, v, 0, _, _, rfl, rfl, rfl⟩
  | des n => exact ⟨0x0A, n, 0, 0, _, _, rfl, rfl, rfl⟩
  | setmin us => exact ⟨0x0B, _, _, _, _, _, rfl, rfl, congrArg Instr.setmin (imm24_bytes us).symm⟩
  | setmax us => exact ⟨0x0C, _, _, _, _, _, rfl, rfl, congrArg Instr.setmax (imm24_bytes us).symm⟩
  | xchg => exact ⟨0x0D, 0, 0, 0, _, _, rfl, rfl, rfl⟩
  | valid => exact ⟨0x0E, 0, 0, 0, _, _, rfl, rfl, rfl⟩
  | rdpkt sel off => exact ⟨0x0F, sel, off, 0, _, _, rfl, rfl, rfl⟩
  | rdsub p f => exact ⟨0x10, p, f, 0, _, _, rfl, rfl, rfl⟩
  | rdcsr n => exact ⟨0x11, n, 0, 0, _, _, rfl, rfl, rfl⟩

theorem eq_ofNat_of_toNat_eq {n : Nat} {b : Byte} (h : b.toNat = n) : b = BitVec.ofNat 8 n := by
  rw [← h, BitVec.ofNat_toNat, BitVec.setWidth_eq]

/-- The encoder writes a row's command as the row's opcode and the operand bytes: in each row the opcode is known, and
the bytes the row leaves out are zero. -/
theorem encode_of_row {op a b c : Byte} {fmt : Format} {mk : Byte → Byte → Byte → Instr}
    (hrow : opRow op = some (fmt, mk)) (hzero : fmt.unusedZero a b c = true) :
    encode (mk a b c) = cmdWord op a b c := by
  unfold opRow at hrow
  split at hrow <;> cases hrow
  all_goals
    rename_i hop
    obtain rfl := eq_ofNat_of_toNat_eq hop
    simp_all [Format.unusedZero, encode, append_imm24]

theorem Instr.InRow.encode_eq {i : Instr} {op a b c : Byte} {fmt : Format} {mk : Byte → Byte → Byte → Instr}
    (h : i.InRow op a b c fmt mk) : encode i = cmdWord op a b c := by
  rw [h.eq_mk, encode_of_row h.opRow_eq h.unusedZero]

/-- Settles O1: a command's word has the opcode and the operand bytes of the command's row, and the decoder looks the
same row up. -/
theorem decodeOfEncodeIsTheCommand : Obligations.DecodeOfEncodeIsTheCommand := by
  intro i
  obtain ⟨op, a, b, c, fmt, mk, h⟩ := i.exists_inRow
  rw [h.encode_eq, decodeWord_eq_ok_iff, opOf_cmdWord, aOf_cmdWord, bOf_cmdWord, cOf_cmdWord]
  exact ⟨fmt, mk, h.opRow_eq, h.unusedZero, h.eq_mk⟩

/-- Settles O2: a word that decodes is the opcode and the operand bytes of a row, which is how the encoder writes that
row's command. -/
theorem encodeOfDecodedIsTheWord : Obligations.EncodeOfDecodedIsTheWord := by
  intro w i hdec
  obtain ⟨fmt, mk, hrow, hzero, rfl⟩ := (decodeWord_eq_ok_iff w i).mp hdec
  rw [encode_of_row hrow hzero, cmdWord_fields]

/-- Settles O4: each word is, bit for bit, what the encoder writes for its command. -/
theorem writtenOutWordsDecode : Obligations.WrittenOutWordsDecode :=
  ⟨decodeOfEncodeIsTheCommand (.build 0x03 0x83 0x03), decodeOfEncodeIsTheCommand (.warg 1 5),
    decodeOfEncodeIsTheCommand (.setcid 0x85), decodeOfEncodeIsTheCommand (.des 42),
    decodeOfEncodeIsTheCommand (.setmin 600), decodeOfEncodeIsTheCommand .xchg,
    decodeOfEncodeIsTheCommand (.rdpkt 1 10), decodeOfEncodeIsTheCommand (.rdcsr 8)⟩

end Sys2Proof

/-! PROOF. What a command, an event and a step can make of a state, one named outcome per way: the layer every
statement about all commands, all events or all steps is proved over. -/

namespace Sys2Proof.Machine

open Sys2Proof

/-! ### Commands -/

/-- The ways a command can end (`exec_cases`, by name). -/
inductive ExecOutcome (s : State) : Instr → State → Prop
  /-- A rejection or a read. -/
  | answeredOnly {i : Instr} (c : CompletionCode) (d : BitVec 32) (hread : c = .ok → readsOnly i = true) :
      ExecOutcome s i (answered c d s)
  /-- A builder command wrote the request; the constant fields stay, or `BUILD` zeroes them (R36). -/
  | wroteRequest {i : Instr} (q : Packet) (hwrites : writesRequest i = true)
      (hconstant : q.status = s.req.status ∧ q.remainingPackets = s.req.remainingPackets ∧
          q.protocolType = s.req.protocolType ∧ q.reserved = s.req.reserved ∨
        q.status = 0 ∧ q.remainingPackets = 0 ∧ q.protocolType = 0 ∧ q.reserved = 0) :
      ExecOutcome s i (answered .ok 0 (withRequest q s))
  | checksummed (sel k : Byte) : ExecOutcome s (.cksum sel) (answered .ok (k.setWidth 32) { s with ckout := k })
  | serialised : ExecOutcome s .ser (answered .ok 0 { s with txBuf := ser Config.params s.req })
  | wroteRx (off v : Byte) : ExecOutcome s (.wrx off v) (answered .ok 0 (writeRx off.toNat v s))
  | loadedResponse : ExecOutcome s (.des 90) (answered .ok 0 (writeRsp (desImage Config.params s.rxBuf) s))
  | setMin (us : Micros) : ExecOutcome s (.setmin us) (answered .ok 0 { s with minWait := us })
  | setMax (us : Micros) : ExecOutcome s (.setmax us) (answered .ok 0 { s with maxWait := us })
  /-- An accepted `XCHG`, with what it checked (R194). -/
  | started (hsize : s.req.dataSize.toNat ≤ 80) (hrange : s.minWait ≤ s.maxWait) :
      ExecOutcome s .xchg (startExchange s)
  | matched : ExecOutcome s .valid (answered .ok 1 { s with cls := 1 })
  /-- A verdict other than `Matched`, with its diagnostic record (R234, R235). -/
  | recorded (k : Classification) (hmatched : k ≠ .matched) (hbusy : k ≠ .deviceBusy) :
      ExecOutcome s .valid (answered .ok (k.code.setWidth 32) (recordDiag k.code { s with cls := k.code }))

theorem exec_outcome {i : Instr} {s t : State} (h : exec i s = .next t) : ExecOutcome s i t := by
  obtain ⟨c, d, rfl, hread, _, _, _⟩ | ⟨q, hwrites, rfl, hconstant⟩ | ⟨sel, k, rfl, rfl⟩ | ⟨rfl, rfl⟩ |
    ⟨off, v, rfl, rfl⟩ | ⟨rfl, rfl⟩ | ⟨us, rfl, rfl⟩ | ⟨us, rfl, rfl⟩ | ⟨rfl, hsize, hrange, rfl⟩ | ⟨rfl, rfl⟩ |
    ⟨rfl, k, hmatched, hbusy, rfl⟩ := exec_cases h
  · exact .answeredOnly c d hread
  · exact .wroteRequest q hwrites hconstant
  · exact .checksummed sel k
  · exact .serialised
  · exact .wroteRx off v
  · exact .loadedResponse
  · exact .setMin us
  · exact .setMax us
  · exact .started hsize hrange
  · exact .matched
  · exact .recorded k hmatched hbusy

/-! ### What a command adds to the record of outputs -/

theorem answered_eq_complete (c : CompletionCode) (d : BitVec 32) (s : State) : answered c d s = complete c d s := rfl

theorem withRequest_eq_writeReq (q : Packet) (s : State) : withRequest q s = writeReq q s := rfl

@[simp] theorem transfers_nil : transfers [] = [] := rfl

@[simp] theorem transfers_complete_cons (c : CompletionCode) (d : BitVec 32) (tr : List Output) :
    transfers (.complete c d :: tr) = transfers tr := rfl

@[simp] theorem transfers_diag_cons (k : BitVec 3) (w : Image) (tr : List Output) :
    transfers (.diag k w :: tr) = transfers tr := rfl

@[simp] theorem transfers_append (tr tr' : List Output) : transfers (tr ++ tr') = transfers tr ++ transfers tr' :=
  List.filterMap_append

theorem completions_startExchange (s : State) : completions (startExchange s) = completions s :=
  List.countP_append

/-- A command completes, exactly once, in the phase it found and with no transfer asked for; or it is the `XCHG` that
starts an exchange (R204). -/
theorem ExecOutcome.completes_or_starts {s t : State} {i : Instr} (h : ExecOutcome s i t) :
    (t.phase = s.phase ∧ transfers t.trace = transfers s.trace ∧ completions t = completions s + 1) ∨
    (i = .xchg ∧ t = startExchange s) := by
  cases h with
  | started => exact .inr ⟨rfl, rfl⟩
  | _ => exact .inl (by simp [answered_eq_complete, withRequest_eq_writeReq, completions, Output.isCompletion])

/-! ### The drawn wait (R199) -/

theorem drawWait_mem {lo hi : Micros} (h : lo ≤ hi) (pick : Micros) :
    lo ≤ drawWait lo hi pick ∧ drawWait lo hi pick ≤ hi := by
  obtain ⟨_, hw⟩ | ⟨_, _, hw⟩ | ⟨hlo, hhi, hw⟩ := drawWait_cases lo hi pick <;> rw [hw]
  · exact ⟨BitVec.le_refl lo, h⟩
  · exact ⟨h, BitVec.le_refl hi⟩
  · exact ⟨hlo, hhi⟩

theorem drawWait_of_mem {lo hi pick : Micros} (hlo : lo ≤ pick) (hhi : pick ≤ hi) : drawWait lo hi pick = pick := by
  rw [drawWait, if_neg (BitVec.not_lt.mpr hlo), if_neg (BitVec.not_lt.mpr hhi)]

/-! ### Events -/

/-- The state in the settle wait of `w` ticks (R197). -/
def startWait (w : Micros) (s : State) : State :=
  { s with lastw := w, waitCtr := w, pending := none, phase := .wait }

/-- The inbound transfer asked for after a settle wait of no ticks (R197). -/
def skipWait (s : State) : State := enterRecv { s with lastw := 0, waitCtr := 0, pending := none }

theorem sendSucceeded_of_zero {pick : Micros} {s : State} (h : drawWait s.minWait s.maxWait pick = 0) :
    sendSucceeded pick s = skipWait s := by
  simp only [sendSucceeded, h, if_true]
  rfl

theorem sendSucceeded_of_ne_zero {pick : Micros} {s : State} (h : drawWait s.minWait s.maxWait pick ≠ 0) :
    sendSucceeded pick s = startWait (drawWait s.minWait s.maxWait pick) s := by
  simp only [sendSucceeded, if_neg h]
  rfl

/-- The ways an event can change the state `s` it arrives in (R197 to R205, R300). -/
inductive EventOutcome (s : State) : Event → State → Prop
  /-- An event the controller is not waiting for (R205). -/
  | ignored (e : Event) : EventOutcome s e s
  | presented (w : CmdWord) : EventOutcome s (.present w) { s with port := s.port ++ [w] }
  | sentThenRecv (pick : Micros) (hsend : s.phase = .send) (hzero : drawWait s.minWait s.maxWait pick = 0) :
      EventOutcome s (.outRsp (.written 90) pick) (skipWait s)
  | sentThenWait (pick : Micros) (hsend : s.phase = .send) (hwait : drawWait s.minWait s.maxWait pick ≠ 0) :
      EventOutcome s (.outRsp (.written 90) pick) (startWait (drawWait s.minWait s.maxWait pick) s)
  | sendFailed (a : OutAnswer) (pick : Micros) (n : BitVec 16) (hsend : s.phase = .send) :
      EventOutcome s (.outRsp a pick) (endExchange xresSendError n s)
  | ticked (hwait : s.phase = .wait) (hctr : 1 < s.waitCtr.toNat) :
      EventOutcome s .tick { s with waitCtr := s.waitCtr - 1 }
  | lastTick (hwait : s.phase = .wait) (hctr : s.waitCtr = 1) :
      EventOutcome s .tick (enterRecv { s with waitCtr := 0 })
  | received (w : Image) (hrecv : s.phase = .recv) :
      EventOutcome s (.inRsp (.data w.toList))
        (endExchange xresOk 0 { s with rxBuf := w, rsp := desImage Config.params w })
  | recvFailed (a : InAnswer) (x : BitVec 3) (n : BitVec 16) (hrecv : s.phase = .recv)
      (hx : x = xresRecvError ∨ x = xresIncompleteTransfer) :
      EventOutcome s (.inRsp a) (endExchange x n s)
  | wasReset : EventOutcome s .reset (onReset s)

theorem onEvent_outcome (e : Event) (s : State) : EventOutcome s e (onEvent e s) := by
  cases e with
  | present w => exact .presented w
  | outRsp a pick =>
    obtain ⟨_, heq⟩ | ⟨hsend, rfl, heq⟩ | ⟨hsend, _, n, heq⟩ := onOutRsp_cases a pick s <;> rw [onEvent, heq]
    · exact .ignored _
    · by_cases hzero : drawWait s.minWait s.maxWait pick = 0
      · rw [sendSucceeded_of_zero hzero]
        exact .sentThenRecv pick hsend hzero
      · rw [sendSucceeded_of_ne_zero hzero]
        exact .sentThenWait pick hsend hzero
    · exact .sendFailed a pick n hsend
  | inRsp a =>
    obtain ⟨_, heq⟩ | ⟨hrecv, w, rfl, heq⟩ | ⟨hrecv, _, x, n, hx, heq⟩ := onInRsp_cases a s <;> rw [onEvent, heq]
    · exact .ignored _
    · exact .received w hrecv
    · exact .recvFailed a x n hrecv hx
  | tick =>
    obtain ⟨_, heq⟩ | ⟨hwait, hctr, heq⟩ | ⟨hwait, hctr, heq⟩ := onTick_cases s <;> rw [onEvent, heq]
    · exact .ignored _
    · exact .lastTick hwait hctr
    · exact .ticked hwait hctr
  | reset => exact .wasReset

theorem nextEvent_cons {s : State} {e : Event} {rest : List Event} (h : s.events = e :: rest) :
    nextEvent s = onEvent e { s with events := rest } := by
  rw [nextEvent, h]

theorem nextEvent_nil {s : State} (h : s.events = []) : nextEvent s = s := by
  rw [nextEvent, h]

/-! ### Steps -/

/-- The ways a step can go. -/
inductive StepOutcome (s : State) : State → Prop
  | executed {t : State} (w : CmdWord) (i : Instr) (hfetch : fetch s = some w) (hdec : decodeWord w = .ok i)
      (hexec : ExecOutcome (takeWord s) i t) : StepOutcome s t
  | rejected (w : CmdWord) (e : DecodeError) (hfetch : fetch s = some w) (hdec : decodeWord w = .error e) :
      StepOutcome s (answered (rejectCode e) 0 (takeWord s))
  | stayed (hfetch : fetch s = none) (hevents : s.events = []) : StepOutcome s s
  | consumed {t : State} (e : Event) (rest : List Event) (hfetch : fetch s = none) (hevents : s.events = e :: rest)
      (hevent : EventOutcome { s with events := rest } e t) : StepOutcome s t

theorem step_outcome {s t : State} (h : step s = .next t) : StepOutcome s t := by
  obtain ⟨w, i, hfetch, hdec, hexec⟩ | ⟨w, e, hfetch, hdec, rfl⟩ | ⟨hfetch, rfl⟩ := step_cases h
  · exact .executed w i hfetch hdec (exec_outcome hexec)
  · exact .rejected w e hfetch hdec
  · cases hevents : s.events with
    | nil =>
      rw [nextEvent_nil hevents]
      exact .stayed hfetch hevents
    | cons e rest =>
      rw [nextEvent_cons hevents]
      exact .consumed e rest hfetch hevents (onEvent_outcome e _)

theorem phase_idle_of_fetch {s : State} {w : CmdWord} (h : fetch s = some w) : s.phase = .idle :=
  ((fetch_eq_some s w).mp h).1

end Sys2Proof.Machine

/-! PROOF. The invariant of the block (spec/43_exchange.md section 6) and the order of its transfers (R74): reset meets
them and every step keeps them. -/

namespace Sys2Proof.Machine

open Sys2Proof

/-! ### The codes a diagnostic record can hold (R49, R262) -/

theorem Classification.code_ne_zero (k : Classification) : k.code ≠ 0 := by
  cases k <;> decide

theorem Classification.code_ne_one {k : Classification} (h : k ≠ .matched) : k.code ≠ 1 := by
  revert h
  cases k <;> decide

theorem Classification.code_ne_three {k : Classification} (h : k ≠ .deviceBusy) : k.code ≠ 3 := by
  revert h
  cases k <;> decide

theorem satIncr_toNat (n : BitVec 16) : (satIncr n).toNat = min (n.toNat + 1) 65535 :=
  satCount_toNat _

theorem satIncr_ne_zero (n : BitVec 16) : satIncr n ≠ 0 := by
  intro h
  have hnat := congrArg BitVec.toNat h
  rw [satIncr_toNat] at hnat
  simp at hnat

/-! ### The invariant is not about the model's own lists -/

namespace Inv

variable {s : State}

theorem answered (h : Inv s) (c : CompletionCode) (d : BitVec 32) : Inv (answered c d s) := { h with }

theorem takeWord (h : Inv s) : Inv (takeWord s) := { h with }

theorem withEvents (h : Inv s) (es : List Event) : Inv { s with events := es } := { h with }

theorem reset : Inv State.reset where
  xresNamed := by decide
  clsNotBusy := by decide
  diagclsNamed := by decide
  diagNone := by decide
  reqConstant := by decide
  waitZero := by decide
  waitRange := by decide
  lastwRange := by decide
  accepted := by decide
  cleared := by decide
  frameSent := by
    intro h
    simp [State.reset] at h
  failedZero := by decide
  inProgressXchg := by decide
  pendingMatches := by rfl

/-! ### Commands keep the invariant -/

/-- An invalidated `XRES` is none of the failures of R261. -/
theorem not_failed_zero : ¬ ((0 : BitVec 3) = xresSendError ∨ (0 : BitVec 3) = xresRecvError ∨
    (0 : BitVec 3) = xresIncompleteTransfer) := by decide

theorem not_failed_ok : ¬ (xresOk = xresSendError ∨ xresOk = xresRecvError ∨ xresOk = xresIncompleteTransfer) := by
  decide

theorem withRequest (h : Inv s) (hidle : s.phase = .idle) {q : Packet}
    (hq : q.status = 0 ∧ q.remainingPackets = 0 ∧ q.protocolType = 0 ∧ q.reserved = 0) : Inv (withRequest q s) :=
  { h with
    xresNamed := Nat.zero_le 4
    clsNotBusy := (by decide : (0 : BitVec 3) ≠ 3)
    reqConstant := hq
    accepted := fun hne => absurd hidle hne
    cleared := fun hne => absurd hidle hne
    frameSent := fun hor => (hor.resolve_left (not_not.mpr hidle) rfl).elim
    failedZero := fun hfailed => absurd hfailed not_failed_zero }

/-- `DES` invalidates, so the response it loads is bound to no exchange (R135). -/
theorem writeRsp (h : Inv s) (hidle : s.phase = .idle) (p : Packet) : Inv (writeRsp p s) :=
  { h with
    xresNamed := Nat.zero_le 4
    clsNotBusy := (by decide : (0 : BitVec 3) ≠ 3)
    cleared := fun hne => absurd hidle hne
    frameSent := fun hor => (hor.resolve_left (not_not.mpr hidle) rfl).elim
    failedZero := fun hfailed => absurd hfailed not_failed_zero }

/-- While a result stands the transmit buffer already is the image `SER` writes. -/
theorem serialise (h : Inv s) (hidle : s.phase = .idle) : Inv { s with txBuf := ser Config.params s.req } :=
  { h with
    frameSent := fun hor => by
      obtain ⟨htx, hcrc⟩ := h.frameSent hor
      exact ⟨rfl, htx ▸ hcrc⟩
    pendingMatches := by
      have hpending := h.pendingMatches
      simp only [hidle] at hpending ⊢
      exact hpending }

theorem wroteRx (h : Inv s) (hidle : s.phase = .idle) (k : Nat) (v : Byte) : Inv (writeRx k v s) :=
  { h with cleared := fun hne => absurd hidle hne }

theorem withMin (h : Inv s) (hidle : s.phase = .idle) (us : Micros) : Inv { s with minWait := us } :=
  { h with
    lastwRange := by simp [hidle]
    accepted := fun hne => absurd hidle hne }

theorem withMax (h : Inv s) (hidle : s.phase = .idle) (us : Micros) : Inv { s with maxWait := us } :=
  { h with
    lastwRange := by simp [hidle]
    accepted := fun hne => absurd hidle hne }

theorem withCls (h : Inv s) (hidle : s.phase = .idle) {k : BitVec 3} (hk : k ≠ 3) : Inv { s with cls := k } :=
  { h with
    clsNotBusy := hk
    cleared := fun hne => absurd hidle hne }

theorem recordDiag (h : Inv s) {k : Classification} (hmatched : k ≠ .matched) (hbusy : k ≠ .deviceBusy) :
    Inv (recordDiag k.code s) :=
  { h with
    diagclsNamed := ⟨Classification.code_ne_one hmatched, Classification.code_ne_three hbusy⟩
    diagNone := iff_of_false k.code_ne_zero (satIncr_ne_zero s.diagcnt) }

/-- The start of an exchange establishes the clauses about an exchange in flight (R195, R196). -/
theorem startExchange (h : Inv s) (hidle : s.phase = .idle) (hsize : s.req.dataSize.toNat ≤ 80)
    (hrange : s.minWait ≤ s.maxWait) : Inv (startExchange s) :=
  { h with
    xresNamed := Nat.zero_le 4
    clsNotBusy := (by decide : (0 : BitVec 3) ≠ 3)
    waitZero := fun _ => h.waitZero (by simp [hidle])
    waitRange := nofun
    lastwRange := nofun
    accepted := fun _ => ⟨hsize, hrange⟩
    cleared := fun _ => ⟨rfl, rfl, rfl, rfl, rfl⟩
    frameSent := fun _ => ⟨rfl, (cksum_ser_crc Config.params s.req _).symm⟩
    failedZero := fun _ => rfl
    inProgressXchg := rfl
    pendingMatches := rfl }

theorem exec (h : Inv s) (hidle : s.phase = .idle) {i : Instr} {t : State} (ht : ExecOutcome s i t) : Inv t := by
  cases ht with
  | answeredOnly c d => exact h.answered c d
  | wroteRequest q hwrites hconstant =>
    have hq : q.status = 0 ∧ q.remainingPackets = 0 ∧ q.protocolType = 0 ∧ q.reserved = 0 := by
      obtain ⟨hst, hrem, hpt, hres⟩ | hzero := hconstant
      · rw [hst, hrem, hpt, hres]
        exact h.reqConstant
      · exact hzero
    exact (h.withRequest hidle hq).answered .ok 0
  | checksummed sel k => exact { h with }
  | serialised => exact (h.serialise hidle).answered .ok 0
  | wroteRx off v => exact (h.wroteRx hidle off.toNat v).answered .ok 0
  | loadedResponse => exact (h.writeRsp hidle _).answered .ok 0
  | setMin us => exact (h.withMin hidle us).answered .ok 0
  | setMax us => exact (h.withMax hidle us).answered .ok 0
  | started hsize hrange => exact h.startExchange hidle hsize hrange
  | matched => exact (h.withCls hidle (by decide)).answered .ok 1
  | recorded k hmatched hbusy =>
    exact ((h.withCls hidle (Classification.code_ne_three hbusy)).recordDiag hmatched hbusy).answered .ok _

/-! ### The frame controller keeps the invariant -/

/-- The settle wait starts inside the interval, with at least one tick to run (R197, R199). -/
theorem startWait (h : Inv s) (hsend : s.phase = .send) {w : Micros} (hw : w ≠ 0) (hmin : s.minWait ≤ w)
    (hmax : w ≤ s.maxWait) : Inv (startWait w s) :=
  { h with
    waitZero := fun hne => absurd rfl hne
    waitRange := fun _ => ⟨Nat.pos_of_ne_zero fun h0 => hw (BitVec.eq_of_toNat_eq h0), BitVec.le_refl w⟩
    lastwRange := fun _ => ⟨hmin, hmax⟩
    accepted := fun _ => h.accepted (by simp [hsend])
    cleared := fun _ => h.cleared (by simp [hsend])
    frameSent := fun _ => h.frameSent (.inl (by simp [hsend]))
    inProgressXchg := by
      have hprogress := h.inProgressXchg
      rw [hsend] at hprogress
      exact hprogress
    pendingMatches := rfl }

/-- The inbound transfer is asked for at the end of the wait, be it of no ticks. -/
theorem enterRecv (h : Inv s) (hne : s.phase ≠ .idle) {w : Micros} (hmin : s.minWait ≤ w) (hmax : w ≤ s.maxWait)
    (p : Option TransferReq) : Inv (enterRecv { s with lastw := w, waitCtr := 0, pending := p }) :=
  { h with
    waitZero := fun _ => rfl
    waitRange := nofun
    lastwRange := fun _ => ⟨hmin, hmax⟩
    accepted := fun _ => h.accepted hne
    cleared := fun _ => h.cleared hne
    frameSent := fun _ => h.frameSent (.inl hne)
    inProgressXchg := h.inProgressXchg.trans (if_neg hne)
    pendingMatches := rfl }

/-- A tick that is not the last leaves at least one to run (R200). -/
theorem tick (h : Inv s) (hwait : s.phase = .wait) (hctr : 1 < s.waitCtr.toNat) :
    Inv { s with waitCtr := s.waitCtr - 1 } :=
  { h with
    waitZero := fun hne => absurd hwait hne
    waitRange := fun _ => by
      obtain ⟨_, hle⟩ := h.waitRange hwait
      have hsub : (s.waitCtr - 1).toNat = s.waitCtr.toNat - 1 := BitVec.toNat_sub_of_le (Nat.le_of_lt hctr)
      rw [BitVec.le_def] at hle ⊢
      simp only [hsub]
      omega }

/-- The end of an exchange: what stands of it is the result and the image sent; only a good one leaves a response. -/
theorem endExchange (h : Inv s) (hne : s.phase ≠ .idle) (hwait : s.phase ≠ .wait) {x : BitVec 3} (n : BitVec 16)
    {r : Packet} (b : Image) (hx : x.toNat ≤ 4) (hzero : x ≠ xresOk → r = Packet.zero) :
    Inv (endExchange x n { s with rxBuf := b, rsp := r }) :=
  { h with
    xresNamed := hx
    waitZero := fun _ => h.waitZero hwait
    waitRange := nofun
    lastwRange := nofun
    accepted := fun hidle => absurd rfl hidle
    cleared := fun hidle => absurd rfl hidle
    frameSent := fun _ => h.frameSent (.inl hne)
    failedZero := fun hfailed => hzero (by rintro rfl; exact not_failed_ok hfailed)
    inProgressXchg := rfl
    pendingMatches := rfl }

/-- A failed exchange leaves the response as the start of the exchange made it. -/
theorem failExchange (h : Inv s) (hne : s.phase ≠ .idle) (hwait : s.phase ≠ .wait) {x : BitVec 3} (n : BitVec 16)
    (hx : x.toNat ≤ 4) : Inv (Machine.endExchange x n s) := by
  obtain ⟨hrsp, _⟩ := h.cleared hne
  exact h.endExchange hne hwait n s.rxBuf hx fun _ => hrsp

theorem event (h : Inv s) {e : Event} {t : State} (ht : EventOutcome s e t) : Inv t := by
  cases ht with
  | ignored => exact h
  | presented w => exact { h with }
  | sentThenRecv pick hsend hzero =>
    have hne : s.phase ≠ .idle := by simp [hsend]
    obtain ⟨_, hrange⟩ := h.accepted hne
    obtain ⟨hmin, hmax⟩ := drawWait_mem hrange pick
    rw [hzero] at hmin hmax
    exact h.enterRecv hne hmin hmax none
  | sentThenWait pick hsend hw =>
    obtain ⟨_, hrange⟩ := h.accepted (by simp [hsend])
    obtain ⟨hmin, hmax⟩ := drawWait_mem hrange pick
    exact h.startWait hsend hw hmin hmax
  | sendFailed a pick n hsend => exact h.failExchange (by simp [hsend]) (by simp [hsend]) n (by decide)
  | ticked hwait hctr => exact h.tick hwait hctr
  | lastTick hwait hctr =>
    obtain ⟨hmin, hmax⟩ := h.lastwRange (.inl hwait)
    exact h.enterRecv (by simp [hwait]) hmin hmax s.pending
  | received w hrecv =>
    exact h.endExchange (by simp [hrecv]) (by simp [hrecv]) 0 w (by decide) fun hne => absurd rfl hne
  | recvFailed a x n hrecv hx =>
    have hle : x.toNat ≤ 4 := by obtain rfl | rfl := hx <;> decide
    exact h.failExchange (by simp [hrecv]) (by simp [hrecv]) n hle
  | wasReset => exact { reset with }

end Inv

/-- Settles O57: `Inv` over the ways a step can go. A command meets it in `IDLE`, where the clauses about an exchange
in flight say nothing until `XCHG` establishes them; each controller move hands them on to the next phase. -/
theorem stepKeepsTheBlockInvariant : Obligations.StepKeepsTheBlockInvariant := by
  intro s t hinv hstep
  cases step_outcome hstep with
  | executed w i hfetch hdec hexec =>
    have hidle : s.phase = .idle := phase_idle_of_fetch hfetch
    exact Inv.exec hinv.takeWord hidle hexec
  | rejected w e hfetch hdec => exact hinv.takeWord.answered _ 0
  | stayed => exact hinv
  | consumed e rest hfetch hevents hevent => exact (hinv.withEvents rest).event hevent

/-! ### The transfers in order (R74, R206) -/

/-- An outbound transfer may stand anywhere; what follows it is in order when it is in order after an outbound one. -/
theorem transfersOrdered_append_outReq (open_ : Bool) (l rs : List TransferReq) (q : Quadruple) (data : Image) :
    transfersOrdered open_ (l ++ .outReq q data :: rs) = (transfersOrdered open_ l && transfersOrdered true rs) := by
  induction l generalizing open_ with
  | nil => simp [transfersOrdered]
  | cons r l ih =>
    cases r with
    | outReq q' data' => exact ih true
    | inReq q' want => simp [transfersOrdered, ih, Bool.and_assoc]

theorem lastTransferIsOut_iff (tr : List Output) :
    lastTransferIsOut tr = true ↔ ∃ l q data, transfers tr = l ++ [.outReq q data] := by
  unfold lastTransferIsOut
  constructor
  · intro h
    split at h
    · rename_i q data hlast
      obtain ⟨l, hl⟩ := List.getLast?_eq_some_iff.mp hlast
      exact ⟨l, q, data, hl⟩
    · cases h
  · rintro ⟨l, q, data, hl⟩
    simp [hl]

namespace TransfersInOrder

variable {s t : State}

/-- A state that has asked for nothing more, and is in an exchange before its answer only if `s` is. -/
theorem of_transfers_eq (h : TransfersInOrder s) (htr : transfers t.trace = transfers s.trace)
    (hphase : t.phase = .send ∨ t.phase = .wait → s.phase = .send ∨ s.phase = .wait) : TransfersInOrder t where
  ordered := by rw [htr, h.ordered]
  outLast := fun ht => by
    rw [lastTransferIsOut, htr]
    exact h.outLast (hphase ht)

theorem asksOut (h : TransfersInOrder s) {q : Quadruple} {data : Image}
    (htr : transfers t.trace = transfers s.trace ++ [.outReq q data]) : TransfersInOrder t where
  ordered := by
    rw [htr, transfersOrdered_append_outReq, h.ordered]
    rfl
  outLast := fun _ => (lastTransferIsOut_iff _).mpr ⟨_, q, data, htr⟩

/-- The inbound transfer comes directly after the outbound one, which is the last so far. -/
theorem asksIn (h : TransfersInOrder s) (hphase : s.phase = .send ∨ s.phase = .wait) {q : Quadruple} {want : Nat}
    (hrecv : t.phase = .recv) (htr : transfers t.trace = transfers s.trace ++ [.inReq q want]) :
    TransfersInOrder t where
  ordered := by
    obtain ⟨l, q', data, hlast⟩ := (lastTransferIsOut_iff _).mp (h.outLast hphase)
    have hordered := h.ordered
    rw [hlast, transfersOrdered_append_outReq] at hordered
    rw [htr, hlast, List.append_assoc, List.singleton_append, transfersOrdered_append_outReq]
    simpa [transfersOrdered] using hordered
  outLast := by simp [hrecv]

theorem exec (h : TransfersInOrder s) {i : Instr} (ht : ExecOutcome s i t) : TransfersInOrder t := by
  obtain ⟨hphase, htr, _⟩ | ⟨_, rfl⟩ := ht.completes_or_starts
  · exact h.of_transfers_eq htr (by rw [hphase]; exact id)
  · exact h.asksOut (transfers_append s.trace _)

theorem event (h : TransfersInOrder s) {e : Event} (ht : EventOutcome s e t) : TransfersInOrder t := by
  cases ht with
  | ignored => exact h
  | presented w => exact { h with }
  | sentThenRecv pick hsend => exact h.asksIn (.inl hsend) rfl (transfers_append s.trace _)
  | sentThenWait pick hsend => exact h.of_transfers_eq rfl fun _ => .inl hsend
  | sendFailed => exact h.of_transfers_eq (by simp) nofun
  | ticked => exact { h with }
  | lastTick hwait => exact h.asksIn (.inr hwait) rfl (transfers_append s.trace _)
  | received => exact h.of_transfers_eq (by simp) nofun
  | recvFailed => exact h.of_transfers_eq (by simp) nofun
  | wasReset => exact h.of_transfers_eq rfl nofun

theorem reset : TransfersInOrder State.reset where
  ordered := rfl
  outLast := by decide

end TransfersInOrder

/-- Settles O58: an exchange that has not asked for its answer has its outbound transfer last (`outLast`), and only
such an exchange asks for an inbound one. -/
theorem stepKeepsTransfersInOrder : Obligations.StepKeepsTransfersInOrder := by
  intro s t hord hstep
  cases step_outcome hstep with
  | executed w i hfetch hdec hexec =>
    have htake : TransfersInOrder (takeWord s) := { hord with }
    exact htake.exec hexec
  | rejected w e => exact hord.of_transfers_eq (by simp [answered_eq_complete]) id
  | stayed => exact hord
  | consumed e rest hfetch hevents hevent =>
    have hrest : TransfersInOrder { s with events := rest } := { hord with }
    exact hrest.event hevent

/-- Settles O59: no exchange is in flight after reset, and nothing has been asked for. -/
theorem resetMeetsTheInvariants : Obligations.ResetMeetsTheInvariants :=
  ⟨Inv.reset, TransfersInOrder.reset⟩

end Sys2Proof.Machine

/-! PROOF. The commands one by one: for each, what it answers with its operands in range and out of range
(spec/40_codec.md to 45_csr_access.md), and the statements that say so. -/

namespace Sys2Proof.Machine

open Sys2Proof

/-! ### The equations of the commands with a check -/

section Equations

variable {s : State} {v : Byte}

theorem exec_warg_of_ge {i : Byte} (h : 80 ≤ i.toNat) : exec (.warg i v) s = .next (answered .badIndex 0 s) := if_pos h

theorem exec_warg_of_lt {i : Byte} (h : i.toNat < 80) : exec (.warg i v) s =
    .next (answered .ok 0 (withRequest { s.req with args := s.req.args.setIfInBounds i.toNat v } s)) :=
  if_neg (Nat.not_le.mpr h)

theorem exec_setdev_of_gt (h : 7 < v.toNat) : exec (.setdev v) s = .next (answered .fieldWidth 0 s) := if_pos h

theorem exec_setdev_of_le (h : v.toNat ≤ 7) : exec (.setdev v) s = .next (answered .ok 0 (withRequest { s.req with
    transactionId := packTid Config.params (v.setWidth 3) (unpackTid Config.params s.req.transactionId).2 } s)) :=
  if_neg (Nat.not_lt.mpr h)

theorem exec_settid_of_gt (h : 31 < v.toNat) : exec (.settid v) s = .next (answered .fieldWidth 0 s) := if_pos h

theorem exec_settid_of_le (h : v.toNat ≤ 31) : exec (.settid v) s = .next (answered .ok 0 (withRequest { s.req with
    transactionId := packTid Config.params (unpackTid Config.params s.req.transactionId).1 (v.setWidth 5) } s)) :=
  if_neg (Nat.not_lt.mpr h)

theorem exec_setdir_of_gt (h : 1 < v.toNat) : exec (.setdir v) s = .next (answered .fieldWidth 0 s) := if_pos h

theorem exec_setdir_of_le (h : v.toNat ≤ 1) : exec (.setdir v) s = .next (answered .ok 0 (withRequest { s.req with
    commandId := packCid Config.params (v.setWidth 1) (unpackCid Config.params s.req.commandId).2 } s)) :=
  if_neg (Nat.not_lt.mpr h)

theorem exec_setcid_of_gt (h : 127 < v.toNat) : exec (.setcid v) s = .next (answered .fieldWidth 0 s) := if_pos h

theorem exec_setcid_of_le (h : v.toNat ≤ 127) : exec (.setcid v) s = .next (answered .ok 0 (withRequest { s.req with
    commandId := packCid Config.params (unpackCid Config.params s.req.commandId).1 (v.setWidth 7) } s)) :=
  if_neg (Nat.not_lt.mpr h)

theorem exec_wrx_of_ge {off : Byte} (h : 90 ≤ off.toNat) : exec (.wrx off v) s = .next (answered .badIndex 0 s) :=
  if_pos h

theorem exec_wrx_of_lt {off : Byte} (h : off.toNat < 90) :
    exec (.wrx off v) s = .next (answered .ok 0 (writeRx off.toNat v s)) :=
  if_neg (Nat.not_le.mpr h)

theorem exec_des_of_ne {n : Byte} (h : n.toNat ≠ 90) :
    exec (.des n) s = .next (answered .malformedResponse (n.setWidth 32) s) :=
  if_pos h

theorem exec_des_of_eq {n : Byte} (h : n.toNat = 90) :
    exec (.des n) s = .next (answered .ok 0 (writeRsp (desImage Config.params s.rxBuf) s)) :=
  if_neg (not_not.mpr h)

theorem exec_xchg_of_size (h : 80 < s.req.dataSize.toNat) :
    exec .xchg s = .next (answered .dataSizeOverflow (s.req.dataSize.setWidth 32) s) :=
  if_pos h

theorem exec_xchg_of_range (hsize : s.req.dataSize.toNat ≤ 80) (h : s.maxWait < s.minWait) :
    exec .xchg s = .next (answered .waitRange 0 s) :=
  (if_neg (Nat.not_lt.mpr hsize)).trans (if_pos h)

theorem exec_xchg_of_accepted (hsize : s.req.dataSize.toNat ≤ 80) (h : s.minWait ≤ s.maxWait) :
    exec .xchg s = .next (startExchange s) :=
  (if_neg (Nat.not_lt.mpr hsize)).trans (if_neg (BitVec.not_lt.mpr h))

theorem exec_valid_of_matched (h : classify Config.params s.xres s.req s.rsp = .matched) :
    exec .valid s = .next (answered .ok 1 { s with cls := 1 }) := by
  simp only [exec_valid, execValid, h, if_true]
  rfl

theorem exec_valid_of_ne {k : Classification} (h : classify Config.params s.xres s.req s.rsp = k)
    (hk : k ≠ .matched) : exec .valid s =
      .next (answered .ok (k.code.setWidth 32) (recordDiag k.code { s with cls := k.code })) := by
  simp only [exec_valid, execValid, h, if_neg hk]
  rfl

end Equations

/-! ### The commands with a selector: each selector is a place in a list -/

theorem spaceOfSel_eq (sel : Byte) : spaceOfSel sel = [Space.req, .rsp, .tx, .rx, .diag][sel.toNat]? := by
  unfold spaceOfSel
  split <;> simp_all
  omega

theorem imageOfSel_eq (sel : Byte) : imageOfSel sel = [Space.req, .rsp, .tx, .rx][sel.toNat]? := by
  unfold imageOfSel
  split <;> simp_all
  omega

theorem packetOfSel_eq (p : Byte) (s : State) : packetOfSel p s = [s.req, s.rsp][p.toNat]? := by
  unfold packetOfSel
  split <;> simp_all
  omega

theorem subfieldOfSel_eq (P : Params) (f : Byte) (p : Packet) : subfieldOfSel P f p =
    [(unpackTid P p.transactionId).1.setWidth 32, (unpackTid P p.transactionId).2.setWidth 32,
      (unpackCid P p.commandId).1.setWidth 32, (unpackCid P p.commandId).2.setWidth 32][f.toNat]? := by
  unfold subfieldOfSel
  split <;> simp_all
  omega

theorem csrOfNum_eq (n : Byte) (s : State) : csrOfNum n s =
    [s.xres.setWidth 32, s.xinfo.setWidth 32, s.cls.setWidth 32, s.ckout.setWidth 32, s.minWait.setWidth 32,
      s.maxWait.setWidth 32, s.lastw.setWidth 32, s.diagcnt.setWidth 32, s.diagcls.setWidth 32][n.toNat]? := by
  unfold csrOfNum
  split <;> simp_all
  omega

section Selectors

variable {s : State}

theorem exec_cksum_of_none {sel : Byte} (h : imageOfSel sel = none) :
    exec (.cksum sel) s = .next (answered .badIndex 0 s) := by
  rw [exec_cksum, execCksum, h]
  rfl

theorem exec_cksum_of_some {sel : Byte} {sp : Space} (h : imageOfSel sel = some sp) :
    exec (.cksum sel) s = .next (answered .ok ((cksum (spaceImage Config.params sp s)).setWidth 32)
      { s with ckout := cksum (spaceImage Config.params sp s) }) := by
  rw [exec_cksum, execCksum, h]
  rfl

theorem exec_rdpkt_of_none {sel off : Byte} (h : ((spaceOfSel sel).bind fun sp => memRead sp off.toNat s) = none) :
    exec (.rdpkt sel off) s = .next (answered .badIndex 0 s) := by
  rw [exec_rdpkt, execRdpkt, h]
  rfl

theorem exec_rdpkt_of_some {sel off v : Byte}
    (h : ((spaceOfSel sel).bind fun sp => memRead sp off.toNat s) = some v) :
    exec (.rdpkt sel off) s = .next (answered .ok (v.setWidth 32) s) := by
  rw [exec_rdpkt, execRdpkt, h]
  rfl

theorem exec_rdsub_of_none {p f : Byte} (h : (packetOfSel p s).bind (subfieldOfSel Config.params f) = none) :
    exec (.rdsub p f) s = .next (answered .badIndex 0 s) := by
  rw [exec_rdsub, execRdsub, h]
  rfl

theorem exec_rdsub_of_some {p f : Byte} {v : BitVec 32}
    (h : (packetOfSel p s).bind (subfieldOfSel Config.params f) = some v) :
    exec (.rdsub p f) s = .next (answered .ok v s) := by
  rw [exec_rdsub, execRdsub, h]
  rfl

theorem exec_rdcsr_of_none {n : Byte} (h : csrOfNum n s = none) :
    exec (.rdcsr n) s = .next (answered .badIndex 0 s) := by
  rw [exec_rdcsr, execRdcsr, h]
  rfl

theorem exec_rdcsr_of_some {n : Byte} {v : BitVec 32} (h : csrOfNum n s = some v) :
    exec (.rdcsr n) s = .next (answered .ok v s) := by
  rw [exec_rdcsr, execRdcsr, h]
  rfl

end Selectors

/-! ### Which selectors name nothing (R60, R137, R163, R250) -/

theorem spaceOfSel_eq_none_iff (sel : Byte) : spaceOfSel sel = none ↔ 4 < sel.toNat := by
  rw [spaceOfSel_eq, List.getElem?_eq_none_iff]
  exact Iff.rfl

theorem imageOfSel_eq_none_iff (sel : Byte) : imageOfSel sel = none ↔ 3 < sel.toNat := by
  rw [imageOfSel_eq, List.getElem?_eq_none_iff]
  exact Iff.rfl

theorem packetOfSel_eq_none_iff (p : Byte) (s : State) : packetOfSel p s = none ↔ 1 < p.toNat := by
  rw [packetOfSel_eq, List.getElem?_eq_none_iff]
  exact Iff.rfl

theorem subfieldOfSel_eq_none_iff (P : Params) (f : Byte) (q : Packet) :
    subfieldOfSel P f q = none ↔ 3 < f.toNat := by
  rw [subfieldOfSel_eq, List.getElem?_eq_none_iff]
  exact Iff.rfl

theorem csrOfNum_eq_none_iff (n : Byte) (s : State) : csrOfNum n s = none ↔ 8 < n.toNat := by
  rw [csrOfNum_eq, List.getElem?_eq_none_iff]
  exact Iff.rfl

theorem exists_space {sel : Byte} (h : sel.toNat ≤ 4) : ∃ sp, spaceOfSel sel = some sp :=
  Option.ne_none_iff_exists'.mp fun hnone => Nat.not_lt.mpr h ((spaceOfSel_eq_none_iff sel).mp hnone)

theorem exists_image {sel : Byte} (h : sel.toNat ≤ 3) : ∃ sp, imageOfSel sel = some sp :=
  Option.ne_none_iff_exists'.mp fun hnone => Nat.not_lt.mpr h ((imageOfSel_eq_none_iff sel).mp hnone)

theorem exists_subfield (P : Params) {f : Byte} (q : Packet) (h : f.toNat ≤ 3) :
    ∃ v, subfieldOfSel P f q = some v :=
  Option.ne_none_iff_exists'.mp fun hnone => Nat.not_lt.mpr h ((subfieldOfSel_eq_none_iff P f q).mp hnone)

theorem exists_csr {n : Byte} (s : State) (h : n.toNat ≤ 8) : ∃ v, csrOfNum n s = some v :=
  Option.ne_none_iff_exists'.mp fun hnone => Nat.not_lt.mpr h ((csrOfNum_eq_none_iff n s).mp hnone)

theorem packetOfSel_of_le {p : Byte} (s : State) (h : p.toNat ≤ 1) :
    packetOfSel p s = some (if p = 0 then s.req else s.rsp) := by
  by_cases hzero : p = 0
  · subst hzero
    rfl
  · have hne : p.toNat ≠ 0 := fun h0 => hzero (BitVec.eq_of_toNat_eq h0)
    have hone : p.toNat = 1 := by omega
    rw [packetOfSel_eq, hone, if_neg hzero]
    rfl

section Ranges

variable {s : State}

theorem exec_cksum_of_gt {sel : Byte} (h : 3 < sel.toNat) : exec (.cksum sel) s = .next (answered .badIndex 0 s) :=
  exec_cksum_of_none ((imageOfSel_eq_none_iff sel).mpr h)

theorem exec_rdpkt_of_out {sel off : Byte} (h : 4 < sel.toNat ∨ 90 ≤ off.toNat) :
    exec (.rdpkt sel off) s = .next (answered .badIndex 0 s) := by
  apply exec_rdpkt_of_none
  obtain hsel | hoff := h
  · rw [(spaceOfSel_eq_none_iff sel).mpr hsel, Option.bind_none]
  · exact Option.bind_eq_none_iff.mpr fun sp _ => memRead_none sp off.toNat s hoff

theorem exec_rdpkt_of_in {sel off : Byte} {sp : Space} (hsel : spaceOfSel sel = some sp) (hoff : off.toNat < 90) :
    exec (.rdpkt sel off) s = .next (answered .ok ((spaceImage Config.params sp s)[off.toNat].setWidth 32) s) := by
  apply exec_rdpkt_of_some
  rw [hsel, Option.bind_some, memRead_eq sp off.toNat s hoff]

theorem exec_rdsub_of_out {p f : Byte} (h : 1 < p.toNat ∨ 3 < f.toNat) :
    exec (.rdsub p f) s = .next (answered .badIndex 0 s) := by
  apply exec_rdsub_of_none
  obtain hp | hf := h
  · rw [(packetOfSel_eq_none_iff p s).mpr hp, Option.bind_none]
  · exact Option.bind_eq_none_iff.mpr fun q _ => (subfieldOfSel_eq_none_iff Config.params f q).mpr hf

theorem exec_rdsub_of_in {p f : Byte} {v : BitVec 32} (hp : p.toNat ≤ 1)
    (hv : subfieldOfSel Config.params f (if p = 0 then s.req else s.rsp) = some v) :
    exec (.rdsub p f) s = .next (answered .ok v s) := by
  apply exec_rdsub_of_some
  rw [packetOfSel_of_le s hp, Option.bind_some, hv]

theorem exec_rdcsr_of_gt {n : Byte} (h : 8 < n.toNat) : exec (.rdcsr n) s = .next (answered .badIndex 0 s) :=
  exec_rdcsr_of_none ((csrOfNum_eq_none_iff n s).mpr h)

end Ranges

/-! ### The codec's commands (spec/40_codec.md) -/

/-- Settles O14: `SER` has one path, which stores the image of the request. -/
theorem serCommandFillsTransmitBuffer : Obligations.SerCommandFillsTransmitBuffer := fun _ => rfl

/-- Settles O15: the buffer `WRX` leaves is the old one with one byte set. -/
theorem wrxWritesOneReceiveByte : Obligations.WrxWritesOneReceiveByte := by
  intro off v s
  refine ⟨exec_wrx_of_ge, fun h => ⟨_, exec_wrx_of_lt h, fun k hk => ?byte⟩⟩
  case byte =>
    rw [Vector.getElem_setIfInBounds]
    simp only [eq_comm]

/-- Settles O16: an image has 90 bytes, so `Des` of the receive buffer always answers. -/
theorem desLoadsTheResponse : Obligations.DesLoadsTheResponse := by
  intro n s
  exact ⟨exec_des_of_ne, fun h => ⟨_, des_toList Config.params s.rxBuf, exec_des_of_eq h⟩⟩

/-- Settles O17: the selector's space is at the selector's place among the five images. -/
theorem rdpktReadsAnyByteSpace : Obligations.RdpktReadsAnyByteSpace := by
  intro sel off s
  refine ⟨exec_rdpkt_of_out, fun hsel hoff => ?inRange⟩
  case inRange =>
    obtain ⟨sp, hsp⟩ := exists_space hsel
    refine ⟨spaceImage Config.params sp s, ?image, exec_rdpkt_of_in hsp hoff⟩
    have hmap : ([Space.req, .rsp, .tx, .rx, .diag].map fun sp => spaceImage Config.params sp s)[sel.toNat]? =
        some (spaceImage Config.params sp s) := by
      rw [List.getElem?_map, ← spaceOfSel_eq, hsp, Option.map_some]
    exact hmap

/-- Settles O18: the sub-field selector is a place among the four sub-fields of the packet named. -/
theorem rdsubReadsAnySubfield : Obligations.RdsubReadsAnySubfield := by
  intro p f s
  refine ⟨exec_rdsub_of_out, fun hp hf => ?inRange⟩
  case inRange =>
    obtain ⟨v, hv⟩ := exists_subfield Config.params (if p = 0 then s.req else s.rsp) hf
    exact ⟨_, v, rfl, (subfieldOfSel_eq Config.params f _).symm.trans hv, exec_rdsub_of_in hp hv⟩

/-! ### `CKSUM` (spec/41_checksum.md) -/

/-- Settles O22: the selector's image is at the selector's place among the four images. -/
theorem cksumCommandReportsTheChecksum : Obligations.CksumCommandReportsTheChecksum := by
  intro sel s
  refine ⟨exec_cksum_of_gt, fun hsel => ?inRange⟩
  case inRange =>
    obtain ⟨sp, hsp⟩ := exists_image hsel
    refine ⟨spaceImage Config.params sp s, ?image, exec_cksum_of_some hsp⟩
    have hmap : ([Space.req, .rsp, .tx, .rx].map fun sp => spaceImage Config.params sp s)[sel.toNat]? =
        some (spaceImage Config.params sp s) := by
      rw [List.getElem?_map, ← imageOfSel_eq, hsp, Option.map_some]
    exact hmap

/-! ### The builder's commands (spec/42_builder.md) -/

/-- Settles O23: `BUILD` has one path, which writes `Build(class, id, size)`. -/
theorem buildCreatesAFreshRequest : Obligations.BuildCreatesAFreshRequest := fun _ _ _ _ => rfl

/-- Settles O24: the arguments `WARG` leaves are the old ones with one byte set. -/
theorem wargWritesOneArgument : Obligations.WargWritesOneArgument := by
  intro i v s
  refine ⟨exec_warg_of_ge, fun h => ⟨_, exec_warg_of_lt h, fun k hk => ?byte⟩⟩
  case byte =>
    rw [Vector.getElem_setIfInBounds]
    simp only [eq_comm]

/-- A value inside a sub-field's width is written whole. -/
theorem setWidth_toNat_of_lt {v : Byte} {n : Nat} (h : v.toNat < 2 ^ n) : (v.setWidth n).toNat = v.toNat := by
  rw [BitVec.toNat_setWidth, Nat.mod_eq_of_lt h]

/-- Settles O25: unpacking the byte written gives the value and the neighbour it was packed from. -/
theorem transactionIdWritersKeepTheNeighbour : Obligations.TransactionIdWritersKeepTheNeighbour := by
  intro v s
  refine ⟨exec_setdev_of_gt, fun h => ⟨_, exec_setdev_of_le h, ?dev, ?devKeeps⟩, exec_settid_of_gt,
    fun h => ⟨_, exec_settid_of_le h, ?tid, ?tidKeeps⟩⟩
  case dev =>
    rw [unpackTid_packTid]
    exact setWidth_toNat_of_lt (by omega)
  case devKeeps => rw [unpackTid_packTid]
  case tid =>
    rw [unpackTid_packTid]
    exact setWidth_toNat_of_lt (by omega)
  case tidKeeps => rw [unpackTid_packTid]

/-- Settles O26: unpacking the byte written gives the value and the neighbour it was packed from. -/
theorem commandIdWritersKeepTheNeighbour : Obligations.CommandIdWritersKeepTheNeighbour := by
  intro v s
  refine ⟨exec_setdir_of_gt, fun h => ⟨_, exec_setdir_of_le h, ?dir, ?dirKeeps⟩, exec_setcid_of_gt,
    fun h => ⟨_, exec_setcid_of_le h, ?cid, ?cidKeeps⟩⟩
  case dir =>
    rw [unpackCid_packCid]
    exact setWidth_toNat_of_lt (by omega)
  case dirKeeps => rw [unpackCid_packCid]
  case cid =>
    rw [unpackCid_packCid]
    exact setWidth_toNat_of_lt (by omega)
  case cidKeeps => rw [unpackCid_packCid]

/-! ### `RDCSR` (spec/45_csr_access.md) -/

/-- Settles O27: the number is the register's place in the order of R40. -/
theorem rdcsrReadsEveryRegister : Obligations.RdcsrReadsEveryRegister := by
  intro n s
  refine ⟨exec_rdcsr_of_gt, fun h => ?inRange⟩
  case inRange =>
    obtain ⟨v, hv⟩ := exists_csr s h
    exact ⟨v, (csrOfNum_eq n s).symm.trans hv, exec_rdcsr_of_some hv⟩

/-! ### `VALID` (spec/44_validator.md) -/

/-- Settles O30: the decision order reads the echoed fields and the status, and nothing else. -/
theorem classifyIgnoresTheOtherFields : Obligations.ClassifyIgnoresTheOtherFields := by
  intro P x q r q' r' hqrem hqclass hqid hrrem hrclass hrid hst
  simp only [classify, hqrem, hqclass, hqid, hrrem, hrclass, hrid, hst]

/-- The verdicts `VALID` records, with their codes (R262). -/
theorem Classification.recorded_mem {k : Classification} (hmatched : k ≠ .matched) (hbusy : k ≠ .deviceBusy) :
    (k, k.code) ∈ [(Classification.fieldMismatch, 2), (.commandFailed, 4), (.commandNotSupported, 5),
      (.commandTimedOut, 6), (.transferError, 7)] := by
  revert hmatched hbusy
  cases k <;> decide

/-- The count of records saturates at `0xFFFF` (R11, R235). -/
theorem satIncr_eq (n : BitVec 16) : satIncr n = if n = 0xFFFF then 0xFFFF else n + 1 := by
  apply BitVec.eq_of_toNat_eq
  rw [satIncr_toNat]
  split
  · subst n
    rfl
  · bv_omega

/-- Settles O31: the verdict is never `DeviceBusy`, so a verdict other than `Matched` is one of the five recorded. -/
theorem validRecordsEveryBadVerdict : Obligations.ValidRecordsEveryBadVerdict := by
  intro s
  refine ⟨exec_valid_of_matched, fun hne => ?bad⟩
  case bad =>
    have hbusy := classify_ne_deviceBusy Config.params s.xres s.req s.rsp
    refine ⟨_, Classification.recorded_mem hne hbusy, ?_⟩
    rw [exec_valid_of_ne rfl hne, ← satIncr_eq]
    rfl

/-! ### `SETMIN`, `SETMAX` and `XCHG` (spec/43_exchange.md) -/

/-- Settles O41: each has one path, which writes its bound. -/
theorem waitBoundsAreWritten : Obligations.WaitBoundsAreWritten := fun _ _ => ⟨rfl, rfl⟩

/-- Settles O42: the size is checked before the interval. -/
theorem xchgChecksSizeThenInterval : Obligations.XchgChecksSizeThenInterval := fun _ =>
  ⟨exec_xchg_of_size, exec_xchg_of_range⟩

/-- Settles O43: the request sent is the stamped one, and byte 88 lies outside the domain of its own checksum. -/
theorem xchgStartsTheExchange : Obligations.XchgStartsTheExchange := by
  intro s hsize hrange
  refine ⟨stamp Config.params s.req, _, rfl, rfl, ?stamped, exec_xchg_of_accepted hsize hrange⟩
  case stamped =>
    rw [ser_crc]
    exact (cksum_ser_crc Config.params s.req _).symm

end Sys2Proof.Machine

/-! PROOF. Completions and frames (spec/60_exceptions.md section 1, spec/20_memory.md): every command completes once,
its operand ranges decide the code, and it writes the bytes it names and no other. -/

namespace Sys2Proof.Machine

open Sys2Proof

/-! ### Commands in range and out of range (R260) -/

@[simp] theorem answered_trace_getLast? (c : CompletionCode) (d : BitVec 32) (s : State) :
    (answered c d s).trace.getLast? = some (.complete c d) :=
  List.getLast?_concat

theorem exec_of_writesRequest {i : Instr} (h : writesRequest i = true) (s : State) :
    ∃ q, exec i s = .next (answered .ok 0 (withRequest q s)) := by
  cases i with
  | build cls id size => exact ⟨_, rfl⟩
  | warg i v => exact ⟨_, exec_warg_of_lt (of_decide_eq_true h)⟩
  | setdev v => exact ⟨_, exec_setdev_of_le (of_decide_eq_true h)⟩
  | settid v => exact ⟨_, exec_settid_of_le (of_decide_eq_true h)⟩
  | setdir v => exact ⟨_, exec_setdir_of_le (of_decide_eq_true h)⟩
  | setcid v => exact ⟨_, exec_setcid_of_le (of_decide_eq_true h)⟩
  | _ => cases h

/-- What a read answers does not depend on the record of outputs. -/
theorem exec_of_readsOnly {i : Instr} (h : readsOnly i = true) (s : State) : ∃ c d, ∀ tr : List Output,
    exec i { s with trace := tr } = .next (answered c d { s with trace := tr }) := by
  cases i with
  | rdpkt sel off =>
    cases hv : (spaceOfSel sel).bind fun sp => memRead sp off.toNat s with
    | none => exact ⟨_, _, fun _ => exec_rdpkt_of_none hv⟩
    | some v => exact ⟨_, _, fun _ => exec_rdpkt_of_some hv⟩
  | rdsub p f =>
    cases hv : (packetOfSel p s).bind (subfieldOfSel Config.params f) with
    | none => exact ⟨_, _, fun _ => exec_rdsub_of_none hv⟩
    | some v => exact ⟨_, _, fun _ => exec_rdsub_of_some hv⟩
  | rdcsr n =>
    cases hv : csrOfNum n s with
    | none => exact ⟨_, _, fun _ => exec_rdcsr_of_none hv⟩
    | some v => exact ⟨_, _, fun _ => exec_rdcsr_of_some hv⟩
  | _ => cases h

theorem exec_valid_answered (s : State) : ∃ d u, exec .valid s = .next (answered .ok d u) := by
  by_cases h : classify Config.params s.xres s.req s.rsp = .matched
  · exact ⟨_, _, exec_valid_of_matched h⟩
  · exact ⟨_, _, exec_valid_of_ne rfl h⟩

/-- A command with its operands in range succeeds, but for the checks of `DES` and `XCHG` (R135, R194). -/
theorem exec_of_wellFormed {i : Instr} (h : i.wellFormed = true) (hxchg : i ≠ .xchg) (hdes : ∀ n, i ≠ .des n)
    (s : State) : ∃ d u, exec i s = .next (answered .ok d u) := by
  by_cases hwrites : writesRequest i = true
  · obtain ⟨q, hq⟩ := exec_of_writesRequest hwrites s
    exact ⟨_, _, hq⟩
  · cases i with
    | cksum sel =>
      obtain ⟨sp, hsp⟩ := exists_image (of_decide_eq_true h)
      exact ⟨_, _, exec_cksum_of_some hsp⟩
    | ser => exact ⟨_, _, rfl⟩
    | wrx off v => exact ⟨_, _, exec_wrx_of_lt (of_decide_eq_true h)⟩
    | setmin us => exact ⟨_, _, rfl⟩
    | setmax us => exact ⟨_, _, rfl⟩
    | valid => exact exec_valid_answered s
    | rdpkt sel off =>
      simp only [Instr.wellFormed, Bool.and_eq_true, decide_eq_true_eq] at h
      obtain ⟨hsel, hoff⟩ := h
      obtain ⟨sp, hsp⟩ := exists_space hsel
      exact ⟨_, _, exec_rdpkt_of_in hsp hoff⟩
    | rdsub p f =>
      simp only [Instr.wellFormed, Bool.and_eq_true, decide_eq_true_eq] at h
      obtain ⟨hp, hf⟩ := h
      obtain ⟨v, hv⟩ := exists_subfield Config.params (if p = 0 then s.req else s.rsp) hf
      exact ⟨_, _, exec_rdsub_of_in hp hv⟩
    | rdcsr n =>
      obtain ⟨v, hv⟩ := exists_csr s (of_decide_eq_true h)
      exact ⟨_, _, exec_rdcsr_of_some hv⟩
    | des n => exact absurd rfl (hdes n)
    | xchg => exact absurd rfl hxchg
    | _ => exact absurd h hwrites

theorem exec_of_not_wellFormed {i : Instr} (h : i.wellFormed = false) (s : State) :
    exec i s = .next (answered .badIndex 0 s) ∨ exec i s = .next (answered .fieldWidth 0 s) := by
  cases i with
  | warg i v => exact .inl (exec_warg_of_ge (Nat.not_lt.mp (of_decide_eq_false h)))
  | setdev v => exact .inr (exec_setdev_of_gt (Nat.not_le.mp (of_decide_eq_false h)))
  | settid v => exact .inr (exec_settid_of_gt (Nat.not_le.mp (of_decide_eq_false h)))
  | setdir v => exact .inr (exec_setdir_of_gt (Nat.not_le.mp (of_decide_eq_false h)))
  | setcid v => exact .inr (exec_setcid_of_gt (Nat.not_le.mp (of_decide_eq_false h)))
  | cksum sel => exact .inl (exec_cksum_of_gt (Nat.not_le.mp (of_decide_eq_false h)))
  | wrx off v => exact .inl (exec_wrx_of_ge (Nat.not_lt.mp (of_decide_eq_false h)))
  | rdpkt sel off =>
    refine .inl (exec_rdpkt_of_out ?_)
    simp only [Instr.wellFormed, Bool.and_eq_false_iff, decide_eq_false_iff_not] at h
    omega
  | rdsub p f =>
    refine .inl (exec_rdsub_of_out ?_)
    simp only [Instr.wellFormed, Bool.and_eq_false_iff, decide_eq_false_iff_not] at h
    omega
  | rdcsr n => exact .inl (exec_rdcsr_of_gt (Nat.not_le.mp (of_decide_eq_false h)))
  | _ => cases h

theorem exec_xchg_total (s : State) : ∃ t, exec .xchg s = .next t := by
  by_cases hsize : s.req.dataSize.toNat ≤ 80
  · by_cases hrange : s.minWait ≤ s.maxWait
    · exact ⟨_, exec_xchg_of_accepted hsize hrange⟩
    · exact ⟨_, exec_xchg_of_range hsize (BitVec.not_le.mp hrange)⟩
  · exact ⟨_, exec_xchg_of_size (Nat.not_le.mp hsize)⟩

theorem exec_des_total (n : Byte) (s : State) : ∃ t, exec (.des n) s = .next t := by
  by_cases h : n.toNat = 90
  · exact ⟨_, exec_des_of_eq h⟩
  · exact ⟨_, exec_des_of_ne h⟩

/-- Every command has a next state (R272). -/
theorem exec_total (i : Instr) (s : State) : ∃ t, exec i s = .next t := by
  cases hwf : i.wellFormed with
  | false =>
    obtain h | h := exec_of_not_wellFormed hwf s
    · exact ⟨_, h⟩
    · exact ⟨_, h⟩
  | true =>
    by_cases hxchg : i = .xchg
    · exact hxchg ▸ exec_xchg_total s
    · by_cases hdes : ∃ n, i = .des n
      · obtain ⟨n, rfl⟩ := hdes
        exact exec_des_total n s
      · obtain ⟨d, u, h⟩ := exec_of_wellFormed hwf hxchg (not_exists.mp hdes) s
        exact ⟨_, h⟩

/-- Settles O32: a write of the request clears `XRES`, and without a completed round trip the verdict is
`TransferError`. -/
theorem writingTheRequestVoidsTheVerdict : Obligations.WritingTheRequestVoidsTheVerdict := by
  intro i s hwrites
  obtain ⟨q, hq⟩ := exec_of_writesRequest hwrites s
  have hverdict : classify Config.params 0 q s.rsp = .transferError := classify_of_xres_ne_ok (by decide)
  exact ⟨_, _, hq, rfl, rfl, rfl, exec_valid_of_ne hverdict (by decide), rfl, answered_trace_getLast? ..⟩

/-- Settles O34: each way a command can end adds one completion, and the start of an exchange none. -/
theorem commandsCompleteExactlyOnce : Obligations.CommandsCompleteExactlyOnce := by
  intro i s
  obtain ⟨t, ht⟩ := exec_total i s
  refine ⟨t, ht, ?_⟩
  obtain ⟨hphase, _, hone⟩ | ⟨hxchg, rfl⟩ := (exec_outcome ht).completes_or_starts
  · exact .inl ⟨hphase, hone⟩
  · exact .inr ⟨hxchg, rfl, completions_startExchange s⟩

/-- Settles O35: the range check is the only check of every command but `DES` and `XCHG`. -/
theorem operandRangesDecideTheCode : Obligations.OperandRangesDecideTheCode := by
  intro i s
  refine ⟨fun hwf hxchg hdes => ?_, fun hwf => exec_of_not_wellFormed hwf s⟩
  obtain ⟨d, u, h⟩ := exec_of_wellFormed hwf hxchg hdes s
  exact ⟨_, d, h, answered_trace_getLast? ..⟩

/-- Settles O36: a read changes the record of outputs alone, on which its answer does not depend. -/
theorem readsHaveNoSideEffect : Obligations.ReadsHaveNoSideEffect := by
  intro i s hread
  obtain ⟨c, d, h⟩ := exec_of_readsOnly hread s
  exact ⟨c, d, h s.trace, h (answered c d s).trace⟩

/-! ### The wire image of a packet with one byte changed -/

section OneByte

variable (P : Params) (p : Packet)

theorem ser_withTransactionId (t : Byte) : ser P { p with transactionId := t } = (ser P p).setIfInBounds 1 t :=
  Vector.toList_inj.mp (by simp [ser_toList])

theorem ser_withCommandId (c : Byte) : ser P { p with commandId := c } = (ser P p).setIfInBounds 7 c :=
  Vector.toList_inj.mp (by simp [ser_toList])

theorem ser_withCrc (c : Byte) : ser P { p with crc := c } = (ser P p).setIfInBounds 88 c :=
  Vector.toList_inj.mp (by simp [ser_toList])

theorem ser_withArg {i : Nat} (hi : i < 80) (v : Byte) :
    ser P { p with args := p.args.setIfInBounds i v } = (ser P p).setIfInBounds (8 + i) v :=
  Vector.toList_inj.mp (by simp [ser_toList, Nat.add_comm 8 i, hi])

end OneByte

theorem getElem?_setIfInBounds_image (w : Image) {k : Nat} (hk : k < 90) (v : Byte) (off : Nat) :
    (w.setIfInBounds k v)[off]? = if off = k then some v else w[off]? := by
  rw [Vector.getElem?_setIfInBounds, if_pos hk]
  simp only [eq_comm]

/-! ### What a command leaves of the byte spaces -/

@[simp] theorem memRead_answered (sp : Space) (off : Nat) (c : CompletionCode) (d : BitVec 32) (s : State) :
    memRead sp off (answered c d s) = memRead sp off s := rfl

theorem memRead_withRequest_of_ne {sp : Space} (h : sp ≠ .req) (off : Nat) (q : Packet) (s : State) :
    memRead sp off (withRequest q s) = memRead sp off s := by
  cases sp with
  | req => exact absurd rfl h
  | _ => rfl

theorem memRead_recordDiag_of_ne {sp : Space} (h : sp ≠ .diag) (off : Nat) (k : BitVec 3) (s : State) :
    memRead sp off (recordDiag k s) = memRead sp off s := by
  cases sp with
  | diag => exact absurd rfl h
  | _ => rfl

/-- A request whose image differs in one byte differs there alone, in every space. -/
theorem memRead_withRequest {s : State} {q : Packet} {k : Nat} {v : Byte} (hk : k < 90)
    (hq : ser Config.params q = (ser Config.params s.req).setIfInBounds k v) (sp : Space) (off : Nat) :
    memRead sp off (withRequest q s) = if sp = .req ∧ off = k then some v else memRead sp off s := by
  by_cases hsp : sp = .req
  · subst hsp
    have hread : memRead .req off (withRequest q s) = (ser Config.params q)[off]? := rfl
    rw [hread, hq, getElem?_setIfInBounds_image _ hk]
    simp only [true_and]
    rfl
  · simp [memRead_withRequest_of_ne hsp, hsp]

/-- Settles O37: argument `i` is the byte at wire offset `8 + i`. -/
theorem wargChangesOneWireByte : Obligations.WargChangesOneWireByte := by
  intro i v s h
  refine ⟨_, exec_warg_of_lt h, fun sp off => ?_⟩
  rw [memRead_answered]
  exact memRead_withRequest (by omega) (ser_withArg Config.params s.req h v) sp off

/-- A command that is rejected, or writes a request whose image differs at offset `k` alone, changes at most that
byte. -/
theorem memRead_of_one_byte_writer {s : State} {i : Instr} {k : Nat} (hk : k < 90)
    (h : exec i s = .next (answered .fieldWidth 0 s) ∨ ∃ q v, exec i s = .next (answered .ok 0 (withRequest q s)) ∧
      ser Config.params q = (ser Config.params s.req).setIfInBounds k v) :
    ∃ t, exec i s = .next t ∧
      ∀ (sp : Space) (off : Nat), ¬ (sp = .req ∧ off = k) → memRead sp off t = memRead sp off s := by
  obtain hrej | ⟨q, v, hexec, hq⟩ := h
  · exact ⟨_, hrej, fun sp off _ => memRead_answered sp off _ _ s⟩
  · refine ⟨_, hexec, fun sp off hne => ?_⟩
    rw [memRead_answered, memRead_withRequest hk hq, if_neg hne]

/-- Settles O38: the packed bytes stand at offsets 1 and 7; a value too wide changes nothing. -/
theorem subfieldWritersChangeOneWireByte : Obligations.SubfieldWritersChangeOneWireByte := by
  rintro i k v s (⟨rfl | rfl, rfl⟩ | ⟨rfl | rfl, rfl⟩)
  all_goals refine memRead_of_one_byte_writer (by decide) ?_
  · obtain hv | hv := Nat.lt_or_ge 7 v.toNat
    · exact .inl (exec_setdev_of_gt hv)
    · exact .inr ⟨_, _, exec_setdev_of_le hv, ser_withTransactionId ..⟩
  · obtain hv | hv := Nat.lt_or_ge 31 v.toNat
    · exact .inl (exec_settid_of_gt hv)
    · exact .inr ⟨_, _, exec_settid_of_le hv, ser_withTransactionId ..⟩
  · obtain hv | hv := Nat.lt_or_ge 1 v.toNat
    · exact .inl (exec_setdir_of_gt hv)
    · exact .inr ⟨_, _, exec_setdir_of_le hv, ser_withCommandId ..⟩
  · obtain hv | hv := Nat.lt_or_ge 127 v.toNat
    · exact .inl (exec_setcid_of_gt hv)
    · exact .inr ⟨_, _, exec_setcid_of_le hv, ser_withCommandId ..⟩

theorem memRead_serialised (s : State) (off : Nat) :
    memRead .tx off { s with txBuf := ser Config.params s.req } = memRead .req off s ∧
      ∀ sp, sp ≠ .tx → memRead sp off { s with txBuf := ser Config.params s.req } = memRead sp off s := by
  refine ⟨rfl, fun sp hsp => ?_⟩
  cases sp with
  | tx => exact absurd rfl hsp
  | _ => rfl

/-- The response `DES` loads is live, so its space reads as the receive buffer does. -/
theorem memRead_loadedResponse (s : State) (off : Nat) :
    memRead .rsp off (writeRsp (desImage Config.params s.rxBuf) s) = memRead .rx off s ∧
      ∀ sp, sp ≠ .rsp → memRead sp off (writeRsp (desImage Config.params s.rxBuf) s) = memRead sp off s := by
  refine ⟨congrArg (·[off]?) (ser_desImage Config.params s.rxBuf), fun sp hsp => ?_⟩
  cases sp with
  | rsp => exact absurd rfl hsp
  | _ => rfl

theorem exec_valid_frame (s : State) : ∃ t, exec .valid s = .next t ∧
    ∀ off sp, sp ≠ .diag → memRead sp off t = memRead sp off s := by
  by_cases h : classify Config.params s.xres s.req s.rsp = .matched
  · exact ⟨_, exec_valid_of_matched h, fun off sp _ => rfl⟩
  · refine ⟨_, exec_valid_of_ne rfl h, fun off sp hsp => ?_⟩
    rw [memRead_answered, memRead_recordDiag_of_ne hsp]
    rfl

theorem zeros_getElem? {off : Nat} (h : off < 90) : Image.zeros[off]? = some 0 := by
  simp [Image.zeros, h]

/-- The start of an exchange changes the checksum byte of the request, clears the response and the receive buffer, and
makes the transmit buffer the request's image (R195, R196). -/
theorem memRead_startExchange (s : State) (off : Nat) :
    (off ≠ 88 → memRead .req off (startExchange s) = memRead .req off s) ∧
      memRead .tx off (startExchange s) = memRead .req off (startExchange s) ∧
      memRead .diag off (startExchange s) = memRead .diag off s ∧
      (off < 90 → memRead .rsp off (startExchange s) = some 0 ∧ memRead .rx off (startExchange s) = some 0) := by
  refine ⟨fun hoff => ?req, rfl, rfl, fun hoff => ⟨?rsp, zeros_getElem? hoff⟩⟩
  case req =>
    have hread : memRead .req off (startExchange s) = (ser Config.params (stamp Config.params s.req))[off]? := rfl
    rw [hread, stamp, ser_withCrc, getElem?_setIfInBounds_image _ (by decide), if_neg hoff]
    rfl
  case rsp =>
    have hread : memRead .rsp off (startExchange s) = (ser Config.params Packet.zero)[off]? := rfl
    rw [hread, ser_zero, zeros_getElem? hoff]

/-- Settles O39: one frame lemma per command that writes a buffer. -/
theorem bufferWritersLeaveTheRest : Obligations.BufferWritersLeaveTheRest := by
  refine ⟨?build, ?ser, ?des, exec_valid_frame, ?wrx, ?xchg⟩
  case build => exact fun cls id size s => ⟨_, rfl, fun sp off hsp => memRead_withRequest_of_ne hsp off _ s⟩
  case ser => exact fun s => ⟨_, rfl, memRead_serialised s⟩
  case des => exact fun n s hn => ⟨_, exec_des_of_eq hn, memRead_loadedResponse s⟩
  case wrx => exact fun off v s hoff => ⟨_, exec_wrx_of_lt hoff, fun sp k => memRead_writeRx sp k _ v s hoff⟩
  case xchg => exact fun s hsize hrange => ⟨_, exec_xchg_of_accepted hsize hrange, memRead_startExchange s⟩

/-- Settles O40: a read or a rejection adds its completion alone, and `CKOUT` and the bounds stand in no space. -/
theorem otherCommandsStoreNothing : Obligations.OtherCommandsStoreNothing := by
  rintro i s (hread | ⟨sel, rfl⟩ | ⟨us, rfl⟩ | ⟨us, rfl⟩)
  · obtain ⟨c, d, h⟩ := exec_of_readsOnly hread s
    exact ⟨_, h s.trace, rfl, rfl, rfl, fun sp off => memRead_answered sp off c d s⟩
  · cases hsel : imageOfSel sel with
    | none => exact ⟨_, exec_cksum_of_none hsel, rfl, rfl, rfl, fun sp off => memRead_answered sp off _ _ s⟩
    | some img => exact ⟨_, exec_cksum_of_some hsel, rfl, rfl, rfl, fun sp off => rfl⟩
  · exact ⟨_, rfl, rfl, rfl, rfl, fun sp off => rfl⟩
  · exact ⟨_, rfl, rfl, rfl, rfl, fun sp off => rfl⟩

end Sys2Proof.Machine

/-! PROOF. One step of the block: the command on the port, the next event, and what the frame controller does with it
(spec/43_exchange.md sections 3, 4 and 6; spec/70_reset_and_hazards.md section 1). -/

namespace Sys2Proof.Machine

open Sys2Proof

/-! ### The equations of a step -/

section Equations

variable {s : State}

theorem step_of_command {w : CmdWord} {rest : List CmdWord} {i : Instr} (hidle : s.phase = .idle)
    (hport : s.port = w :: rest) (hdec : decodeWord w = .ok i) : step s = exec i { s with port := rest } := by
  have hfetch : fetch s = some w := (fetch_eq_some s w).mpr ⟨hidle, by rw [hport]; rfl⟩
  have htake : takeWord s = { s with port := rest } := by rw [takeWord, hport]; rfl
  rw [step, hfetch]
  simp only [hdec, htake]

theorem step_of_event {e : Event} {rest : List Event} (hfetch : fetch s = none) (hevents : s.events = e :: rest) :
    step s = .next (onEvent e { s with events := rest }) := by
  rw [step, hfetch, ← nextEvent_cons hevents]

theorem step_of_quiet (hfetch : fetch s = none) (hevents : s.events = []) : step s = .next s := by
  rw [step, hfetch]
  simp only [nextEvent_nil hevents]

/-- While an exchange is in flight every step consumes the next event. -/
theorem step_of_busy {e : Event} {rest : List Event} (hne : s.phase ≠ .idle) (hevents : s.events = e :: rest) :
    step s = .next (onEvent e { s with events := rest }) :=
  step_of_event ((fetch_eq_none s).mpr (.inl hne)) hevents

end Equations

/-! ### What the frame controller does with an event, phase by phase (R197 to R205) -/

section Handlers

variable (s : State)

theorem onOutRsp_of_ne (h : s.phase ≠ .send) (a : OutAnswer) (pick : Micros) : onOutRsp a pick s = s := if_neg h

theorem onOutRsp_sent (h : s.phase = .send) (pick : Micros) :
    onOutRsp (.written 90) pick s = sendSucceeded pick s := if_pos h

theorem onOutRsp_written {n : Nat} (h : s.phase = .send) (hn : n ≠ 90) (pick : Micros) :
    onOutRsp (.written n) pick s = endExchange xresSendError (satCount n) s :=
  (if_pos h).trans (if_neg hn)

theorem onOutRsp_err (h : s.phase = .send) (e : TErr) (pick : Micros) :
    onOutRsp (.err e) pick s = endExchange xresSendError (terrInfo e) s := if_pos h

theorem onTick_of_ne (h : s.phase ≠ .wait) : onTick s = s := if_neg fun hwait => h hwait.1

theorem onTick_of_one (h : s.phase = .wait) (hctr : s.waitCtr = 1) :
    onTick s = enterRecv { s with waitCtr := 0 } := by
  simp [onTick, h, hctr]

theorem onTick_of_gt (h : s.phase = .wait) (hctr : 1 < s.waitCtr.toNat) :
    onTick s = { s with waitCtr := s.waitCtr - 1 } := by
  obtain ⟨hne | hzero, _⟩ | ⟨_, hone, _⟩ | ⟨_, _, heq⟩ := onTick_cases s
  · exact absurd h hne
  · simp [hzero] at hctr
  · simp [hone] at hctr
  · exact heq

theorem onInRsp_of_ne (h : s.phase ≠ .recv) (a : InAnswer) : onInRsp a s = s := if_neg h

theorem onInRsp_image (h : s.phase = .recv) (w : Image) : onInRsp (.data w.toList) s =
    endExchange xresOk 0 { s with rxBuf := w, rsp := desImage Config.params w } := by
  simp only [onInRsp, h, if_true, (imageOfBytes_eq_some w.toList w).mpr rfl]

theorem onInRsp_data {b : List Byte} (h : s.phase = .recv) (hb : b.length ≠ 90) :
    onInRsp (.data b) s = endExchange xresIncompleteTransfer (satCount b.length) s := by
  simp only [onInRsp, h, if_true, (imageOfBytes_eq_none b).mpr hb]

theorem onInRsp_err (h : s.phase = .recv) (e : TErr) :
    onInRsp (.err e) s = endExchange xresRecvError (terrInfo e) s := if_pos h

end Handlers

/-! ### Commands and the port (R80, R193, R272) -/

/-- Settles O6: the word on the port is accepted in `IDLE`, and taking it changes the port alone. -/
theorem stepRunsTheDecodedCommand : Obligations.StepRunsTheDecodedCommand := fun _ _ _ _ hidle hport hdec =>
  step_of_command hidle hport hdec

theorem step_total (s : State) : ∃ t, step s = .next t := by
  unfold step
  cases fetch s with
  | none => exact ⟨_, rfl⟩
  | some w =>
    cases hdec : decodeWord w with
    | ok i => simpa only [hdec] using exec_total i (takeWord s)
    | error e => exact ⟨_, by simp only [hdec]; rfl⟩

/-- Settles O8: no command and no decoding stops the block, and with neither a word nor an event `nextEvent` is the
identity. -/
theorem nothingStopsTheBlock : Obligations.NothingStopsTheBlock := by
  refine ⟨exec_total, step_total, fun s hevents hquiet => ?_, step_of_quiet rfl rfl⟩
  exact step_of_quiet ((fetch_eq_none s).mpr hquiet) hevents

/-- What an event other than reset leaves alone: the events behind it, the port but for a presented word, and whatever
only a command writes. -/
structure KeepsCommandState (e : Event) (s t : State) : Prop where
  events : t.events = s.events
  port : (∀ w, e ≠ .present w) → t.port = s.port
  req : t.req = s.req
  minWait : t.minWait = s.minWait
  maxWait : t.maxWait = s.maxWait
  ckout : t.ckout = s.ckout
  cls : t.cls = s.cls
  txBuf : t.txBuf = s.txBuf
  diagBuf : t.diagBuf = s.diagBuf
  diagcls : t.diagcls = s.diagcls
  diagcnt : t.diagcnt = s.diagcnt

theorem EventOutcome.keepsCommandState {s t : State} {e : Event} (h : EventOutcome s e t) (hreset : e ≠ .reset) :
    KeepsCommandState e s t := by
  cases h with
  | wasReset => exact absurd rfl hreset
  | presented w => exact ⟨rfl, fun hne => absurd rfl (hne w), rfl, rfl, rfl, rfl, rfl, rfl, rfl, rfl, rfl⟩
  | _ => exact ⟨rfl, fun _ => rfl, rfl, rfl, rfl, rfl, rfl, rfl, rfl, rfl, rfl⟩

/-- Settles O7: a busy block fetches nothing, so the step is the event's, and no event but reset writes what a command
writes. -/
theorem commandsAreHeldWhileBusy : Obligations.CommandsAreHeldWhileBusy := by
  intro s e rest hne hevents hreset
  have hstep := step_of_busy hne hevents
  refine ⟨fun w hw => ?presented, _, hstep, ?kept⟩
  case presented =>
    subst hw
    exact hstep
  case kept =>
    obtain ⟨hrest, hport, hreq, hmin, hmax, hckout, hcls, htx, hdiag, hdiagcls, hdiagcnt⟩ :=
      (onEvent_outcome e { s with events := rest }).keepsCommandState hreset
    exact ⟨hrest, hport, hreq, hmin, hmax, hckout, hcls, htx, hdiag, hdiagcls, hdiagcnt⟩

/-! ### The moves of the frame controller (R197 to R205) -/

/-- Settles O44: the wait drawn is `pick` kept inside the interval; a wait of no ticks is skipped. -/
theorem sendSuccessStartsTheWait : Obligations.SendSuccessStartsTheWait := by
  intro s pick rest hsend hrange hevents
  obtain ⟨hmin, hmax⟩ := drawWait_mem hrange pick
  have hstep : step s = .next (sendSucceeded pick { s with events := rest }) := by
    rw [step_of_busy (by simp [hsend]) hevents, onEvent, onOutRsp_sent { s with events := rest } hsend]
  refine ⟨_, hmin, hmax, drawWait_of_mem, fun hzero => ?skipped, fun hwait => ?waits⟩
  case skipped =>
    rw [hstep, sendSucceeded_of_zero (s := { s with events := rest }) hzero]
    rfl
  case waits =>
    rw [hstep, sendSucceeded_of_ne_zero (s := { s with events := rest }) hwait]
    rfl

/-- Settles O45: a count other than 90 is saturated, an error code is recorded whole. -/
theorem sendFailureEndsTheExchange : Obligations.SendFailureEndsTheExchange := by
  intro s a pick rest hsend hevents hne
  have hstep := step_of_busy (by simp [hsend]) hevents
  cases a with
  | written n =>
    refine ⟨satCount n, nofun, ?_, ?_⟩
    · rintro _ ⟨⟩
      exact satCount_toNat n
    · have hn : n ≠ 90 := fun hn => hne (congrArg OutAnswer.written hn)
      rw [hstep, onEvent, onOutRsp_written { s with events := rest } hsend hn]
      rfl
  | err e =>
    refine ⟨terrInfo e, ?_, nofun, ?_⟩
    · rintro _ ⟨⟩
      exact terrInfo_toNat e
    · rw [hstep, onEvent, onOutRsp_err { s with events := rest } hsend]
      rfl

/-- Settles O46: a tick takes one from the count; from 1 it goes on to the inbound transfer. -/
theorem tickCountsTheWaitDown : Obligations.TickCountsTheWaitDown := by
  intro s rest hwait hevents
  have hstep := step_of_busy (by simp [hwait]) hevents
  refine ⟨fun hctr => ?_, fun hctr => ?_⟩
  · rw [hstep, onEvent, onTick_of_gt { s with events := rest } hwait hctr]
  · rw [hstep, onEvent, onTick_of_one { s with events := rest } hwait hctr]
    rfl

/-- Settles O47: ninety bytes are an image, which is kept and deserialised. -/
theorem ninetyBytesEndTheExchangeWell : Obligations.NinetyBytesEndTheExchangeWell := by
  intro s b rest hrecv hevents hlength
  obtain ⟨w, rfl⟩ := exists_image_of_length hlength
  refine ⟨desImage Config.params w, w, rfl, des_toList Config.params w, ?_⟩
  rw [step_of_busy (by simp [hrecv]) hevents, onEvent, onInRsp_image { s with events := rest } hrecv]
  rfl

/-- Settles O48: another count is saturated, an error code is recorded whole, and neither brings a byte. -/
theorem inboundFailureKeepsNoByte : Obligations.InboundFailureKeepsNoByte := by
  intro s a rest hrecv hevents hshort
  have hstep := step_of_busy (by simp [hrecv]) hevents
  cases a with
  | data b =>
    refine ⟨4, satCount b.length, ?_, nofun, ?_⟩
    · rintro _ ⟨⟩
      exact ⟨rfl, satCount_toNat b.length⟩
    · rw [hstep, onEvent, onInRsp_data { s with events := rest } hrecv (hshort b rfl)]
      rfl
  | err e =>
    refine ⟨3, terrInfo e, nofun, ?_, ?_⟩
    · rintro _ ⟨⟩
      exact ⟨rfl, terrInfo_toNat e⟩
    · rw [hstep, onEvent, onInRsp_err { s with events := rest } hrecv]
      rfl

/-- Settles O49: each handler of the controller tests the phase it waits in. -/
theorem unawaitedEventsAreIgnored : Obligations.UnawaitedEventsAreIgnored := by
  intro s e rest hevents hquiet hunawaited
  rw [step_of_event ((fetch_eq_none s).mpr hquiet) hevents]
  congr 1
  obtain ⟨⟨a, pick, rfl⟩, hne⟩ | ⟨⟨a, rfl⟩, hne⟩ | ⟨rfl, hne⟩ := hunawaited
  · exact onOutRsp_of_ne { s with events := rest } hne a pick
  · exact onInRsp_of_ne { s with events := rest } hne a
  · exact onTick_of_ne { s with events := rest } hne

/-! ### Statements about every step -/

theorem EventOutcome.phase_move {s t : State} {e : Event} (h : EventOutcome s e t) :
    t.phase = s.phase ∨
    (s.phase, t.phase) ∈ [(Phase.idle, Phase.send), (.send, .wait), (.send, .recv), (.send, .idle), (.wait, .recv),
      (.recv, .idle)] ∨
    e = .reset ∧ t.phase = .idle := by
  cases h with
  | ignored => exact .inl rfl
  | presented => exact .inl rfl
  | ticked => exact .inl rfl
  | sentThenRecv pick hsend => exact .inr (.inl (by simp [hsend, skipWait]))
  | sentThenWait pick hsend => exact .inr (.inl (by simp [hsend, startWait]))
  | sendFailed a pick n hsend => exact .inr (.inl (by simp [hsend]))
  | lastTick hwait => exact .inr (.inl (by simp [hwait]))
  | received w hrecv => exact .inr (.inl (by simp [hrecv]))
  | recvFailed a x n hrecv => exact .inr (.inl (by simp [hrecv]))
  | wasReset => exact .inr (.inr ⟨rfl, rfl⟩)

/-- Settles O50: only `XCHG` among the commands moves the phase, from `IDLE` to `SEND`; the other moves are the
controller's. -/
theorem phaseFollowsTheMachine : Obligations.PhaseFollowsTheMachine := by
  intro s t hstep
  cases step_outcome hstep with
  | executed w i hfetch hdec hexec =>
    obtain ⟨hphase, _⟩ | ⟨_, rfl⟩ := hexec.completes_or_starts
    · exact .inl hphase
    · exact .inr (.inl (by simp [phase_idle_of_fetch hfetch, startExchange]))
  | rejected => exact .inl rfl
  | stayed => exact .inl rfl
  | consumed e rest hfetch hevents hevent =>
    obtain hsame | hmove | ⟨rfl, hidle⟩ := hevent.phase_move
    · exact .inl hsame
    · exact .inr (.inl hmove)
    · exact .inr (.inr ⟨⟨rest, hevents⟩, hidle⟩)

theorem ExecOutcome.keeps_inputs {s t : State} {i : Instr} (h : ExecOutcome s i t) :
    t.port = s.port ∧ t.events = s.events := by
  cases h <;> exact ⟨rfl, rfl⟩

/-- Settles O54: in any other state the reset is the step's event; in `IDLE` with a word on the port the step is the
word's, and neither a command nor a rejection touches the inputs. -/
theorem resetEventAbandonsEverything : Obligations.ResetEventAbandonsEverything := by
  intro s rest hevents
  refine ⟨fun hquiet => ?reset, fun w words hidle hport => ?wordFirst⟩
  case reset =>
    rw [step_of_event ((fetch_eq_none s).mpr hquiet) hevents]
    rfl
  case wordFirst =>
    cases hdec : decodeWord w with
    | error e => exact ⟨_, step_of_decode_error hidle hport hdec, rfl, hevents⟩
    | ok i =>
      obtain ⟨t, ht⟩ := exec_total i { s with port := words }
      obtain ⟨hwords, hleft⟩ := (exec_outcome ht).keeps_inputs
      exact ⟨t, (step_of_command hidle hport hdec).trans ht, hwords, hleft.trans hevents⟩

theorem ExecOutcome.rsp_writers {s t : State} {i : Instr} (h : ExecOutcome s i t) :
    t.rsp = s.rsp ∨ i = .xchg ∨ i = .des 90 := by
  cases h with
  | started => exact .inr (.inl rfl)
  | loadedResponse => exact .inr (.inr rfl)
  | _ => exact .inl rfl

theorem EventOutcome.rsp_writers {s t : State} {e : Event} (h : EventOutcome s e t) :
    t.rsp = s.rsp ∨ e = .reset ∨ (s.phase = .recv ∧ ∃ w : Image, e = .inRsp (.data w.toList)) := by
  cases h with
  | wasReset => exact .inr (.inl rfl)
  | received w hrecv => exact .inr (.inr ⟨hrecv, w, rfl⟩)
  | _ => exact .inl rfl

/-- Settles O55: the writers of the response among the commands and among the events. -/
theorem responseWriters : Obligations.ResponseWriters := by
  intro s t hstep hne
  cases step_outcome hstep with
  | executed w i hfetch hdec hexec =>
    obtain hsame | rfl | rfl := hexec.rsp_writers
    · exact absurd hsame hne
    · exact .inl ⟨w, hfetch, .inl hdec⟩
    · exact .inl ⟨w, hfetch, .inr hdec⟩
  | rejected => exact absurd rfl hne
  | stayed => exact absurd rfl hne
  | consumed e rest hfetch hevents hevent =>
    obtain hsame | rfl | ⟨hrecv, w, rfl⟩ := hevent.rsp_writers
    · exact absurd hsame hne
    · exact .inr (.inl ⟨hfetch, rest, hevents⟩)
    · exact .inr (.inr ⟨hrecv, _, rest, hevents, w.length_toList⟩)

theorem ExecOutcome.diagcnt_writers {s t : State} {i : Instr} (h : ExecOutcome s i t) :
    t.diagcnt = s.diagcnt ∨ i = .valid ∧ t.diagcnt = satIncr s.diagcnt := by
  cases h with
  | recorded => exact .inr ⟨rfl, rfl⟩
  | _ => exact .inl rfl

theorem satIncr_bounds (n : BitVec 16) : n.toNat ≤ (satIncr n).toNat ∧ (satIncr n).toNat ≤ n.toNat + 1 := by
  have hlt := n.isLt
  rw [satIncr_toNat]
  omega

/-- Settles O56: `VALID` alone writes the count, and by one up to saturation. -/
theorem diagnosticCountOnlyGrows : Obligations.DiagnosticCountOnlyGrows := by
  intro s t hstep hreset
  have unchanged (h : t.diagcnt = s.diagcnt) : s.diagcnt.toNat ≤ t.diagcnt.toNat ∧
      t.diagcnt.toNat ≤ s.diagcnt.toNat + 1 ∧
      (t.diagcnt ≠ s.diagcnt → ∃ w, fetch s = some w ∧ decodeWord w = .ok .valid) := by
    rw [h]
    exact ⟨le_refl _, Nat.le_succ _, fun hne => absurd rfl hne⟩
  cases step_outcome hstep with
  | executed w i hfetch hdec hexec =>
    obtain hsame | ⟨rfl, hcount⟩ := hexec.diagcnt_writers
    · exact unchanged hsame
    · obtain ⟨hlo, hhi⟩ := satIncr_bounds s.diagcnt
      rw [hcount]
      exact ⟨hlo, hhi, fun _ => ⟨w, hfetch, hdec⟩⟩
  | rejected => exact unchanged rfl
  | stayed => exact unchanged rfl
  | consumed e rest hfetch hevents hevent =>
    exact unchanged (hevent.keepsCommandState fun he => hreset rest (he ▸ hevents)).diagcnt

/-- Settles O60: the tables of R260, R261, R262 and R30, name by name. -/
theorem outcomesHaveTheirNumbers : Obligations.OutcomesHaveTheirNumbers := by
  refine ⟨?completion, rfl, ?classification, rfl, ?phase⟩
  case completion => intro c; cases c <;> decide
  case classification => intro k; cases k <;> decide
  case phase => intro ph; cases ph <;> decide

end Sys2Proof.Machine

/-! PROOF. Runs of the frame controller (spec/43_exchange.md sections 4 and 6): the settle wait tick by tick, and the
whole round trip. -/

namespace Sys2Proof.Machine

open Sys2Proof

/-! ### Runs -/

/-- A run of one step more, of any machine. -/
theorem core_run_succ {M : Host.Core} {s t : M.State} (h : M.step s = .next t) (k : Nat) :
    M.run (k + 1) s = M.run k t := by
  rw [Host.Core.run, h]

theorem run_succ {s t : State} (h : step s = .next t) (k : Nat) : core.run (k + 1) s = core.run k t :=
  core_run_succ (M := core) h k

theorem run_one {s t : State} (h : step s = .next t) : core.run 1 s = .next t :=
  run_succ h 0

/-- A run followed by a run is one run. -/
theorem run_add {m : Nat} {s u : State} (h : core.run m s = .next u) (k : Nat) :
    core.run (m + k) s = core.run k u := by
  induction m generalizing s with
  | zero =>
    cases h
    exact congrArg (core.run · u) (Nat.zero_add k)
  | succ m ih =>
    obtain ⟨t, ht⟩ := step_total s
    have htail : core.run m t = .next u := (run_succ ht m).symm.trans h
    calc core.run (m + 1 + k) s = core.run (m + k + 1) s := congrArg (core.run · s) (Nat.add_right_comm m 1 k)
      _ = core.run (m + k) t := run_succ ht (m + k)
      _ = core.run k u := ih htail

/-! ### The settle wait (R200) -/

/-- The settle wait after `m` of its ticks, none of them the last, with `es` still to come. -/
def ticked (m : Nat) (es : List Event) (s : State) : State :=
  { s with waitCtr := s.waitCtr - BitVec.ofNat 24 m, events := es }

/-- The inbound transfer asked for at the end of a settle wait, with `es` still to come. -/
def waitOver (es : List Event) (s : State) : State := enterRecv { s with waitCtr := 0, events := es }

theorem ticked_waitCtr_toNat {m : Nat} {s : State} (h : m < s.waitCtr.toNat) (es : List Event) :
    (ticked m es s).waitCtr.toNat = s.waitCtr.toNat - m := by
  have hlt := s.waitCtr.isLt
  have hm : (BitVec.ofNat 24 m).toNat = m := by
    rw [BitVec.toNat_ofNat, Nat.mod_eq_of_lt (by omega)]
  rw [ticked, BitVec.toNat_sub_of_le (by rw [BitVec.le_def]; omega), hm]

/-- Ticks before the last count down and do nothing else. -/
theorem run_ticks {m : Nat} {s : State} {es : List Event} (hwait : s.phase = .wait) (hm : m < s.waitCtr.toNat)
    (hevents : s.events = List.replicate m .tick ++ es) : core.run m s = .next (ticked m es s) := by
  induction m generalizing s with
  | zero =>
    have hes : s.events = es := hevents
    have hsame : ticked 0 es s = s := by simp [ticked, ← hes]
    exact congrArg Host.Outcome.next hsame.symm
  | succ m ih =>
    have hcons : s.events = .tick :: (List.replicate m .tick ++ es) := hevents
    obtain ⟨hstep, _⟩ := tickCountsTheWaitDown s _ hwait hcons
    have hctr : (s.waitCtr - 1).toNat = s.waitCtr.toNat - 1 :=
      BitVec.toNat_sub_of_le (Nat.one_le_of_lt hm)
    have hleft : m < (s.waitCtr - 1).toNat := by omega
    have hticked : s.waitCtr - 1 - BitVec.ofNat 24 m = s.waitCtr - BitVec.ofNat 24 (m + 1) := by
      bv_omega
    have htail := ih (s := { s with waitCtr := s.waitCtr - 1, events := _ }) hwait hleft rfl
    simp only [ticked, hticked] at htail
    exact (run_succ (hstep (by omega)) m).trans htail

/-- The last tick of the wait asks for the inbound transfer. -/
theorem step_last_tick {s : State} {es : List Event} (hwait : s.phase = .wait) (hctr : s.waitCtr = 1)
    (hevents : s.events = .tick :: es) : step s = .next (waitOver es s) :=
  (tickCountsTheWaitDown s es hwait hevents).2 hctr

theorem run_wait {s : State} {es : List Event} (hwait : s.phase = .wait) (hctr : 1 ≤ s.waitCtr.toNat)
    (hevents : s.events = List.replicate s.waitCtr.toNat .tick ++ es) :
    core.run s.waitCtr.toNat s = .next (waitOver es s) := by
  obtain ⟨m, hm⟩ := Nat.exists_eq_add_of_le' hctr
  have hsplit : s.events = List.replicate m .tick ++ (.tick :: es) := by
    rw [hevents, hm, List.replicate_succ', List.append_assoc, List.singleton_append]
  have hone : (ticked m (.tick :: es) s).waitCtr = 1 :=
    BitVec.eq_of_toNat_eq ((ticked_waitCtr_toNat (by omega) _).trans (by simp [hm]))
  have hlast := step_last_tick (es := es) (s := ticked m (.tick :: es) s) hwait hone rfl
  rw [hm]
  exact (run_add (run_ticks hwait (by omega) hsplit) 1).trans (run_one hlast)

/-- Settles O51: the ticks before the last count down (`run_ticks`), the last one ends the wait. -/
theorem settleWaitTakesExactlyItsTicks : Obligations.SettleWaitTakesExactlyItsTicks := by
  rintro _ s rest hwait rfl hctr hevents
  refine ⟨fun m hm => ?before, run_wait hwait hctr hevents⟩
  case before =>
    have hsplit : s.events = List.replicate m .tick ++ (List.replicate (s.waitCtr.toNat - m) .tick ++ rest) := by
      rw [hevents, ← List.append_assoc, ← List.replicate_add, Nat.add_sub_cancel' (Nat.le_of_lt hm)]
    exact ⟨_, run_ticks hwait hm hsplit, hwait, ticked_waitCtr_toNat hm _, rfl⟩

/-! ### The round trip -/

theorem step_xchg {s : State} {cmds : List CmdWord} (hidle : s.phase = .idle) (hport : s.port = 0x0D000000 :: cmds)
    (hsize : s.req.dataSize.toNat ≤ 80) (hrange : s.minWait ≤ s.maxWait) :
    step s = .next (startExchange { s with port := cmds }) := by
  have hdec : decodeWord 0x0D000000 = .ok .xchg := decodeOfEncodeIsTheCommand .xchg
  rw [step_of_command hidle hport hdec]
  exact exec_xchg_of_accepted (s := { s with port := cmds }) hsize hrange

/-- From the outbound answer to the request for the inbound transfer, be the wait of no ticks or of some. -/
theorem run_sent {s : State} {pick : Micros} {es : List Event} (hsend : s.phase = .send) (hlo : s.minWait ≤ pick)
    (hhi : pick ≤ s.maxWait)
    (hevents : s.events = .outRsp (.written 90) pick :: (List.replicate pick.toNat .tick ++ es)) :
    core.run (1 + pick.toNat) s = .next (waitOver es { s with lastw := pick }) := by
  obtain ⟨w, _, _, hw, hskip, hstart⟩ :=
    sendSuccessStartsTheWait s pick _ hsend (BitVec.le_trans hlo hhi) hevents
  obtain rfl := hw hlo hhi
  by_cases hzero : w = 0
  · subst hzero
    exact run_one (hskip rfl)
  · have hctr : 1 ≤ w.toNat := Nat.pos_of_ne_zero fun h0 => hzero (BitVec.eq_of_toNat_eq h0)
    have hwait := run_wait (s := startWait w { s with events := List.replicate w.toNat .tick ++ es }) (es := es) rfl
      hctr rfl
    exact (run_add (run_one (hstart hzero)) w.toNat).trans hwait

/-- How an exchange ends, by its inbound answer: what is kept of it is decided by the answer alone (R202, R203). -/
theorem onInRsp_result (s : State) (hrecv : s.phase = .recv) (a : InAnswer) : ∃ x n b r,
    onInRsp a s = endExchange x n { s with rxBuf := b, rsp := r } ∧
    (∀ l p, a = .data l → des Config.params l = some p → x = 1 ∧ n = 0 ∧ r = p ∧ b.toList = l) ∧
    (∀ l, a = .data l → l.length ≠ 90 → x = 4 ∧ n.toNat = min l.length 65535 ∧ r = s.rsp ∧ b = s.rxBuf) ∧
    (∀ e, a = .err e → x = 3 ∧ n.toNat = e.toNat ∧ r = s.rsp ∧ b = s.rxBuf) := by
  cases a with
  | data l =>
    by_cases hlength : l.length = 90
    · obtain ⟨w, rfl⟩ := exists_image_of_length hlength
      refine ⟨xresOk, 0, w, desImage Config.params w, onInRsp_image s hrecv w, ?_, ?_, nofun⟩
      · rintro _ p ⟨⟩ hp
        exact ⟨rfl, rfl, Option.some.inj ((des_toList Config.params w).symm.trans hp), rfl⟩
      · rintro _ ⟨⟩ hne
        exact absurd hlength hne
    · refine ⟨_, _, s.rxBuf, s.rsp, onInRsp_data s hrecv hlength, ?_, ?_, nofun⟩
      · rintro _ p ⟨⟩ hp
        rw [(des_eq_none_iff Config.params l).mpr hlength] at hp
        cases hp
      · rintro _ ⟨⟩ _
        exact ⟨rfl, satCount_toNat l.length, rfl, rfl⟩
  | err e =>
    refine ⟨_, _, s.rxBuf, s.rsp, onInRsp_err s hrecv e, nofun, nofun, ?_⟩
    rintro _ ⟨⟩
    exact ⟨rfl, terrInfo_toNat e, rfl, rfl⟩

/-- The exchange of `s` with its settle wait of `pick` ticks over: the inbound transfer is asked for, and `es` is still
to come. -/
def awaiting (cmds : List CmdWord) (pick : Micros) (es : List Event) (s : State) : State :=
  waitOver es { startExchange { s with port := cmds } with lastw := pick }

theorem awaiting_trace (cmds : List CmdWord) (pick : Micros) (es : List Event) (s : State) :
    (awaiting cmds pick es s).trace = s.trace ++
      [.transfer (outRequest (awaiting cmds pick es s).txBuf), .transfer inRequest] :=
  List.append_assoc ..

/-- The round trip up to the request for the inbound transfer. -/
theorem run_until_awaiting {s : State} {cmds : List CmdWord} {pick : Micros} {es : List Event}
    (hidle : s.phase = .idle) (hport : s.port = 0x0D000000 :: cmds) (hsize : s.req.dataSize.toNat ≤ 80)
    (hlo : s.minWait ≤ pick) (hhi : pick ≤ s.maxWait)
    (hevents : s.events = .outRsp (.written 90) pick :: (List.replicate pick.toNat .tick ++ es)) :
    core.run (1 + (1 + pick.toNat)) s = .next (awaiting cmds pick es s) :=
  (run_add (run_one (step_xchg hidle hport hsize (BitVec.le_trans hlo hhi))) _).trans
    (run_sent (s := startExchange { s with port := cmds }) rfl hlo hhi hevents)

/-- Settles O52: the word starts the exchange, the outbound answer and the ticks lead to `RECV`, and the inbound
answer, which alone decides what is kept, ends it. -/
theorem roundTripCompletesOnce : Obligations.RoundTripCompletesOnce := by
  intro s cmds pick a rest hidle hport hsize hlo hhi hevents
  have hrun := run_until_awaiting hidle hport hsize hlo hhi hevents
  have hlast := step_of_busy (s := awaiting cmds pick (.inRsp a :: rest) s) (by simp [awaiting, waitOver]) rfl
  obtain ⟨x, n, b, r, hend, hok, hshort, herr⟩ := onInRsp_result (awaiting cmds pick rest s) rfl a
  have hcount : pick.toNat + 3 = 1 + (1 + pick.toNat) + 1 := by omega
  refine ⟨endExchange x n { awaiting cmds pick rest s with rxBuf := b, rsp := r }, ?run, rfl, rfl, rfl, rfl, rfl, rfl,
    rfl, rfl, hok, hshort, herr, ?trace⟩
  case run =>
    rw [hcount, ← hend]
    exact (run_add hrun 1).trans (run_one hlast)
  case trace =>
    rw [endExchange_trace, awaiting_trace, List.append_assoc]
    rfl

end Sys2Proof.Machine
